-- ==== Sys2Proof/Word.lean ====
section
/-! DEFINITION. The bytes of the two links (R172) and the plainest arithmetic on them. -/

namespace Sys2Proof

/-- One byte on a link. -/
abbrev Byte := BitVec 8

/-- The least significant byte of a number. -/
def byteOf (n : Nat) : Byte := BitVec.ofNat 8 n

end Sys2Proof
end

