-- ==== Sys2Proof/Syntax.lean ====
section
/-! DEFINITION. The commands of the Jendaz 648: the 31 requests of the links with their named fields, and the
events of the station's equipment. One constructor of `Instr` per row of spec/opcode_table.json. -/

namespace Sys2Proof

/-- The two message links (R172). -/
inductive Link where
  | cell
  | line
  deriving DecidableEq, Repr

/-- What every request frame carries beside its fields (R172): the link it arrived on, its tag, and its length
byte, which is the size of its payload. -/
structure Header where
  link : Link
  tag : Nat
  len : Nat
  deriving DecidableEq, Repr

/-- The six fields of a pin class entry beside its number (R3), forces in dN and the engage length in µm. -/
structure ClassEntry where
  entryMin : Nat
  entryMax : Nat
  holdMin : Nat
  holdMax : Nat
  abort : Nat
  engage : Nat
  deriving DecidableEq, Repr

/-- A pin of a column pattern: its rank and the number of its class (R11). -/
structure PinCell where
  rank : Nat
  cls : Nat
  deriving DecidableEq, Repr

/-- A connector type entry, less its id (R8 to R11). A name is its character codes; a pattern lists the cells of
rows 1 to R, `none` for an empty cell; `assign` gives each column its pattern number. -/
structure TypeEntry where
  name : List Nat
  cols : Nat
  rows : Nat
  ranks : Nat
  onsets : List Nat
  seat : Nat
  tol : Nat
  slope : Nat
  touch : Nat
  patterns : List (List (Option PinCell))
  assign : List Nat
  deriving DecidableEq, Repr

/-- The five kinds of step with their fields (R49): positions in µm, speeds in 0.1 mm/s, the cap in N, the time in ms. -/
inductive StepBody where
  | move (target speed : Nat)
  | probe (limit speed windowMin windowMax : Nat)
  | press (speed cap : Nat)
  | dwell (time : Nat)
  | retract (target speed : Nat)
  deriving DecidableEq, Repr

/-- The step a STEP request offers: one of the five kinds, or a kind code that names none of them, whose other
bytes are not read (R52, R174). -/
inductive StepOffer where
  | known (body : StepBody)
  | unknownKind (code : Nat)
  deriving DecidableEq, Repr

/-- The requests of section 11.6 with their named fields. A named value travels as its number (R172), so a field
that may carry an unlisted value is a number here. -/
inductive Request where
  | ident
  | state
  | mask (operation : Nat) (kinds : Nat)
  | restart
  | classPut (number : Nat) (entry : ClassEntry)
  | classDrop (number : Nat)
  | classGet (number : Nat)
  | cataloguePut (typeId : Nat) (entry : TypeEntry)
  | catalogueDrop (typeId : Nat)
  | catalogueGet (typeId : Nat)
  | tare
  | retrain
  | headMap
  | job (typeId first : Nat) (serial : List Nat) (mode : Nat)
  | step (offer : StepOffer) (last : Nat)
  | stepFlush
  | start
  | stop
  | home
  | retract
  | clearFault
  | profileRead (channel first count : Nat)
  | resultSummary (press firstOutcome : Nat)
  | resultColumn (press column : Nat)
  | resultPins (press column : Nat)
  | resultRelease (press : Nat)
  | qualify (typeId headKind level interval : Nat)
  | qualifyGet (typeId headKind : Nat)
  | dispose (press outcome operator : Nat)
  | holdTime (seconds : Nat)
  | guardConfig (entries : List Nat)
  deriving DecidableEq, Repr

/-- The way the tool is mounted (R29). -/
inductive Orientation where
  | normal
  | reversed
  deriving DecidableEq, Repr

/-- A cell alert as a frame carries it (R38): `kind` 0 OVERTEMP, 1 OVERTEMP_CLEAR, 2 DRIFT, 3 SELFTEST_FAIL, 4 to 255 any other. -/
structure Alert where
  position : Nat
  kind : Nat
  value : Nat
  seq : Nat
  deriving DecidableEq, Repr

/-- One lane's frame of one frame instant that passed its CRC (R35): the raw samples in slot order, in dN, and the alerts. -/
structure LaneFrame where
  lane : Nat
  raws : List Int
  alerts : List Alert
  deriving DecidableEq, Repr

/-- The commands, one constructor per row of spec/opcode_table.json. A request carries its header and fields. An event
carries what the equipment shows the part: `enc` is the encoder's count in µm, `raw` a raw ram reading in N. `closed` says
that the home switch is closed as HOME, or the byte that may complete its frame, is taken (R71; DESIGN CHOICE,
notes/assumptions/34.md; safe). Where a constructor gives a value to its last field, its name without it, as the table has
it, stands for the event at the count 0, or with the switch open. -/
inductive Instr where
  | powerOn
  | frameDiscard (link : Link)
  | interByteTimeout (link : Link)
  | unknownRequest (h : Header) (code : Nat)
  | transmitFrameEnd (link : Link)
  | ident (h : Header)
  | state (h : Header)
  | mask (h : Header) (operation kinds : Nat)
  | restart (h : Header)
  | classPut (h : Header) (number : Nat) (entry : ClassEntry)
  | classDrop (h : Header) (number : Nat)
  | classGet (h : Header) (number : Nat)
  | cataloguePut (h : Header) (typeId : Nat) (entry : TypeEntry)
  | catalogueDrop (h : Header) (typeId : Nat)
  | catalogueGet (h : Header) (typeId : Nat)
  | tare (h : Header)
  | retrain (h : Header)
  | headMap (h : Header)
  | job (h : Header) (typeId first : Nat) (serial : List Nat) (mode : Nat)
  | step (h : Header) (offer : StepOffer) (last : Nat)
  | stepFlush (h : Header)
  | start (h : Header)
  | handoverEnd (enc : Int := 0)
  | stop (h : Header)
  | underrunTimeout (enc : Int := 0)
  | home (h : Header) (closed : Bool := false)
  | homeSwitchClosed
  | homingRest (enc : Int)
  | homingComplete
  | homingTimeout
  | retract (h : Header)
  | clearFault (h : Header)
  | ramSample (raw enc : Int)
  | frameInstant (enc : Int) (frames : List LaneFrame)
  | automaticRetrain (enc : Int := 0)
  | tareComplete
  | headAttach
  | headDetach (enc : Int := 0)
  | trainingAttemptSuccess
  | trainingAttemptTimeout (passed : List Nat)
  | descriptorAnswer (kind : Nat) (orientation : Orientation)
  | descriptorTimeout
  | rollCallAnswer (serial position kind : Nat)
  | rollCallClose
  | moveReached (enc : Int)
  | probeLimitArrival (enc : Int)
  | dwellElapsed (enc : Int)
  | stall (enc : Int)
  | travelLimit (enc : Int)
  | stopAtRest (enc : Int)
  | retractReached (enc : Int)
  | driveReadyLost (enc : Int)
  | driveFaultInput (enc : Int)
  | stopTimeout (enc : Int)
  | restReport
  | holdOverdue
  | profileRead (h : Header) (channel first count : Nat)
  | resultSummary (h : Header) (press firstOutcome : Nat)
  | resultColumn (h : Header) (press column : Nat)
  | resultPins (h : Header) (press column : Nat)
  | resultRelease (h : Header) (press : Nat)
  | qualify (h : Header) (typeId headKind level interval : Nat)
  | qualifyGet (h : Header) (typeId headKind : Nat)
  | dispose (h : Header) (press outcome operator : Nat)
  | holdTime (h : Header) (seconds : Nat)
  | guardConfig (h : Header) (entries : List Nat)
  | guardInputChange (input : Nat) (nowOpen : Bool) (enc : Int := 0)
  | frameByteReceived (link : Link) (byte : Byte) (closed : Bool := false)
  | driveReadyPresent
  | faultInputInactive
  | rampOutputZero
  deriving DecidableEq, Repr

end Sys2Proof
end

