-- ==== Sys2Proof/WellFormed.lean ====
section
/-! DEFINITION. Which commands can arrive at all: every field fits the width R172 gives it on the wire or the range
its own rule gives what the equipment shows. A field may still lie outside the range its rule accepts; that is for
the command's own checks to refuse. -/

namespace Sys2Proof

/-- A number that fits in one byte. -/
def fits8 (n : Nat) : Bool := n < 2 ^ 8
/-- A number that fits in two bytes. -/
def fits16 (n : Nat) : Bool := n < 2 ^ 16
/-- A number that fits in four bytes. -/
def fits32 (n : Nat) : Bool := n < 2 ^ 32
/-- A text: at most 255 characters of one byte each (R172). -/
def fitsText (t : List Nat) : Bool := fits8 t.length && t.all fits8

/-- R172: tag of two bytes, length byte of at most 240. -/
def Header.wellFormed (h : Header) : Bool := fits16 h.tag && decide (h.len ≤ 240)

/-- R172: class forces of two bytes, the engage length of four. -/
def ClassEntry.wellFormed (e : ClassEntry) : Bool :=
  fits16 e.entryMin && fits16 e.entryMax && fits16 e.holdMin && fits16 e.holdMax && fits16 e.abort && fits32 e.engage

/-- R172: a pattern cell is empty or one byte, 16 × (rank − 1) + class. -/
def cellWellFormed : Option PinCell → Bool
  | none => true
  | some p => decide (1 ≤ p.rank) && decide (1 ≤ p.cls) && decide (p.cls ≤ 16) && fits8 (16 * (p.rank - 1) + p.cls)

/-- R172: the counts C, R, K and P fix the lists' lengths, and every field fits its width. -/
def TypeEntry.wellFormed (e : TypeEntry) : Bool :=
  fitsText e.name && fits8 e.cols && fits8 e.rows && fits8 e.ranks && decide (e.onsets.length = e.ranks)
    && e.onsets.all fits32 && fits32 e.seat && fits32 e.tol && fits16 e.slope && fits16 e.touch
    && fits8 e.patterns.length && e.patterns.all (fun p => decide (p.length = e.rows) && p.all cellWellFormed)
    && decide (e.assign.length = e.cols) && e.assign.all fits8

/-- R172: the fields of a step record; an unknown kind is a code above 4. -/
def StepOffer.wellFormed : StepOffer → Bool
  | .known (.move t v) => fits32 t && fits16 v
  | .known (.probe l v a b) => fits32 l && fits16 v && fits32 a && fits32 b
  | .known (.press v c) => fits16 v && fits16 c
  | .known (.dwell t) => fits16 t
  | .known (.retract t v) => fits32 t && fits16 v
  | .unknownKind k => decide (5 ≤ k) && fits8 k

/-- R172: every field of a request fits its width. The last flag of a step of unknown kind is not read. -/
def Request.wellFormed : Request → Bool
  | .mask op k => fits8 op && fits16 k
  | .classPut n e => fits8 n && e.wellFormed
  | .classDrop n | .classGet n => fits8 n
  | .cataloguePut t e => fits16 t && e.wellFormed
  | .catalogueDrop t | .catalogueGet t => fits16 t
  | .job t f n m => fits16 t && fits8 f && fitsText n && fits8 m
  | .step (.unknownKind k) l => (StepOffer.unknownKind k).wellFormed && decide (l = 0)
  | .step o l => o.wellFormed && fits8 l
  | .profileRead c f n => fits8 c && fits16 f && fits8 n
  | .resultSummary p i => fits16 p && fits8 i
  | .resultColumn p c | .resultPins p c => fits16 p && fits8 c
  | .resultRelease p => fits16 p
  | .qualify t k l n => fits16 t && fits8 k && fits8 l && fits8 n
  | .qualifyGet t k => fits16 t && fits8 k
  | .dispose p o c => fits16 p && fits8 o && fits16 c
  | .holdTime t => fits16 t
  | .guardConfig es => decide (es.length = 8) && es.all fits8
  | _ => true

/-- R38: position 1 to 48, kind and sequence number of one byte, value of 16 bits. -/
def Alert.wellFormed (a : Alert) : Bool :=
  decide (1 ≤ a.position) && decide (a.position ≤ 48) && fits8 a.kind && fits16 a.value && fits8 a.seq

/-- R35: a raw sample is a signed integer of 16 bits. -/
def rawWellFormed (r : Int) : Bool := decide (-32768 ≤ r) && decide (r ≤ 32767)

/-- R22: lanes are numbered 1 to 4. -/
def laneWellFormed (l : Nat) : Bool := decide (1 ≤ l) && decide (l ≤ 4)

/-- R35: a lane's frame. -/
def LaneFrame.wellFormed (f : LaneFrame) : Bool :=
  laneWellFormed f.lane && f.raws.all rawWellFormed && f.alerts.all Alert.wellFormed

/-- The request a request command carries, with its header. -/
def Instr.request? : Instr → Option (Header × Request)
  | .ident h => some (h, .ident)
  | .state h => some (h, .state)
  | .mask h op k => some (h, .mask op k)
  | .restart h => some (h, .restart)
  | .classPut h n e => some (h, .classPut n e)
  | .classDrop h n => some (h, .classDrop n)
  | .classGet h n => some (h, .classGet n)
  | .cataloguePut h t e => some (h, .cataloguePut t e)
  | .catalogueDrop h t => some (h, .catalogueDrop t)
  | .catalogueGet h t => some (h, .catalogueGet t)
  | .tare h => some (h, .tare)
  | .retrain h => some (h, .retrain)
  | .headMap h => some (h, .headMap)
  | .job h t f n m => some (h, .job t f n m)
  | .step h o l => some (h, .step o l)
  | .stepFlush h => some (h, .stepFlush)
  | .start h => some (h, .start)
  | .stop h => some (h, .stop)
  | .home h _ => some (h, .home)
  | .retract h => some (h, .retract)
  | .clearFault h => some (h, .clearFault)
  | .profileRead h c f n => some (h, .profileRead c f n)
  | .resultSummary h p i => some (h, .resultSummary p i)
  | .resultColumn h p c => some (h, .resultColumn p c)
  | .resultPins h p c => some (h, .resultPins p c)
  | .resultRelease h p => some (h, .resultRelease p)
  | .qualify h t k l n => some (h, .qualify t k l n)
  | .qualifyGet h t k => some (h, .qualifyGet t k)
  | .dispose h p o c => some (h, .dispose p o c)
  | .holdTime h t => some (h, .holdTime t)
  | .guardConfig h es => some (h, .guardConfig es)
  | _ => none

/-- R71: the home switch is closed as HOME is taken. -/
def Instr.switchClosed : Instr → Bool
  | .home _ closed => closed
  | _ => false

/-- A command that can arrive: a request whose header and fields fit the wire (R172), or an event whose operands lie in
the ranges R29, R30, R35, R38 and R163 give. -/
def Instr.wellFormed (i : Instr) : Bool :=
  match i.request? with
  | some (h, r) => h.wellFormed && r.wellFormed
  | none =>
    match i with
    | .unknownRequest h c => h.wellFormed && fits8 c && !(decide (1 ≤ c) && decide (c ≤ 31))
    | .frameInstant _ fs => fs.all LaneFrame.wellFormed
    | .trainingAttemptTimeout p => p.all laneWellFormed
    | .descriptorAnswer k _ => decide (k ≤ 15)
    | .rollCallAnswer s _ k => fits32 s && decide (1 ≤ k) && decide (k ≤ 15)
    | .guardInputChange g _ _ => decide (1 ≤ g) && decide (g ≤ 8)
    | _ => true

end Sys2Proof
end

