-- ==== Sys2Proof/Decode.lean ====
section
/-! DEFINITION. The payloads of requests (R172, R174): the bytes a request's named fields make, and the request that
a payload holds. The opcode table gives no row any bits, so no word spells a command. -/

namespace Sys2Proof

/-- No row of spec/opcode_table.json gives bits: no word spells a command. -/
def decodeTableWord (_nbits _w : Nat) : Option Instr := none

/-! ## Encoding -/

/-- R172: an unsigned integer of two bytes, least significant byte first. -/
def bytes16 (n : Nat) : List Byte := [byteOf n, byteOf (n / 2 ^ 8)]

/-- R172: an unsigned integer of four bytes, least significant byte first. -/
def bytes32 (n : Nat) : List Byte := [byteOf n, byteOf (n / 2 ^ 8), byteOf (n / 2 ^ 16), byteOf (n / 2 ^ 24)]

/-- R172: a text is its character count, then that many characters. -/
def bytesText (t : List Nat) : List Byte := byteOf t.length :: t.map byteOf

/-- R172: a pattern cell is 0 when empty, otherwise 16 × (rank − 1) + class number. -/
def cellCode : Option PinCell → Nat
  | none => 0
  | some p => 16 * (p.rank - 1) + p.cls

/-- R172: the number of a step kind, in the order R49 lists the kinds. -/
def bodyCode : StepBody → Nat
  | .move .. => 0
  | .probe .. => 1
  | .press .. => 2
  | .dwell .. => 3
  | .retract .. => 4

/-- R49, R172: the fields of a step's kind, in the order R49 lists them. -/
def bytesBody : StepBody → List Byte
  | .move t v => bytes32 t ++ bytes16 v
  | .probe l v a b => bytes32 l ++ bytes16 v ++ bytes32 a ++ bytes32 b
  | .press v c => bytes16 v ++ bytes16 c
  | .dwell t => bytes16 t
  | .retract t v => bytes32 t ++ bytes16 v

/-- R3, R172: a class entry less its number; the engage length, a depth, takes four bytes
(DESIGN CHOICE, notes/assumptions/14.md; unsafe). -/
def bytesClass (e : ClassEntry) : List Byte :=
  bytes16 e.entryMin ++ bytes16 e.entryMax ++ bytes16 e.holdMin ++ bytes16 e.holdMax ++ bytes16 e.abort
    ++ bytes32 e.engage

/-- R8 to R11, R172: a connector type entry less its id. K is the count of the onset depths, P that of the patterns; a
pattern's cells and the assignment carry no count of their own, since R and C give it
(DESIGN CHOICE, notes/assumptions/15.md; unsafe). The seat tolerance takes four bytes, the seat slope threshold two
and a pattern's number one (DESIGN CHOICE, notes/assumptions/14.md; unsafe). -/
def bytesType (e : TypeEntry) : List Byte :=
  bytesText e.name ++ [byteOf e.cols, byteOf e.rows, byteOf e.ranks] ++ e.onsets.flatMap bytes32
    ++ bytes32 e.seat ++ bytes32 e.tol ++ bytes16 e.slope ++ bytes16 e.touch
    ++ [byteOf e.patterns.length] ++ e.patterns.flatMap (fun p => p.map (fun c => byteOf (cellCode c)))
    ++ e.assign.map byteOf

/-- Section 11.6: the request codes. -/
def requestCode : Request → Nat
  | .ident => 1
  | .state => 2
  | .mask .. => 3
  | .restart => 4
  | .classPut .. => 5
  | .classDrop .. => 6
  | .classGet .. => 7
  | .cataloguePut .. => 8
  | .catalogueDrop .. => 9
  | .catalogueGet .. => 10
  | .tare => 11
  | .retrain => 12
  | .headMap => 13
  | .job .. => 14
  | .step .. => 15
  | .stepFlush => 16
  | .start => 17
  | .stop => 18
  | .home => 19
  | .retract => 20
  | .clearFault => 21
  | .profileRead .. => 22
  | .resultSummary .. => 23
  | .resultColumn .. => 24
  | .resultPins .. => 25
  | .resultRelease .. => 26
  | .qualify .. => 27
  | .qualifyGet .. => 28
  | .dispose .. => 29
  | .holdTime .. => 30
  | .guardConfig .. => 31

/-- Section 11.6: the codes the request table holds. -/
def codeKnown (code : Nat) : Bool := decide (1 ≤ code) && decide (code ≤ 31)

/-- R172: the payload a request's fields make, in the order its rule lists them. The head kind, the audit interval
and the numbers of columns and channels take one byte each, and GUARD CONFIG's eight entries no count (DESIGN CHOICE, notes/assumptions/14.md; unsafe). -/
def encodeRequest : Request → List Byte
  | .mask op k => byteOf op :: bytes16 k
  | .classPut n e => byteOf n :: bytesClass e
  | .classDrop n | .classGet n => [byteOf n]
  | .cataloguePut t e => bytes16 t ++ bytesType e
  | .catalogueDrop t | .catalogueGet t => bytes16 t
  | .job t f n m => bytes16 t ++ byteOf f :: bytesText n ++ [byteOf m]
  | .step (.known b) l => byteOf (bodyCode b) :: byteOf l :: bytesBody b
  | .step (.unknownKind k) _ => [byteOf k]
  | .profileRead c f n => byteOf c :: bytes16 f ++ [byteOf n]
  | .resultSummary p i => bytes16 p ++ [byteOf i]
  | .resultColumn p c | .resultPins p c => bytes16 p ++ [byteOf c]
  | .resultRelease p => bytes16 p
  | .qualify t k l n => bytes16 t ++ [byteOf k, byteOf l, byteOf n]
  | .qualifyGet t k => bytes16 t ++ [byteOf k]
  | .dispose p o c => bytes16 p ++ byteOf o :: bytes16 c
  | .holdTime t => bytes16 t
  | .guardConfig es => es.map byteOf
  | .ident | .state | .restart | .tare | .retrain | .headMap | .stepFlush | .start | .stop | .home | .retract
  | .clearFault => []

/-- R174, check 4: the size that a request's code, counts, text lengths and step kind require. -/
def requestSize (r : Request) : Nat := (encodeRequest r).length

/-! ## Decoding -/

/-- One byte off the front of a payload. -/
def take8 : List Byte → Option (Nat × List Byte)
  | b :: rest => some (b.toNat, rest)
  | [] => none

/-- Two bytes off the front, least significant first. -/
def take16 : List Byte → Option (Nat × List Byte)
  | a :: b :: rest => some (a.toNat + 2 ^ 8 * b.toNat, rest)
  | _ => none

/-- Four bytes off the front, least significant first. -/
def take32 : List Byte → Option (Nat × List Byte)
  | a :: b :: c :: d :: rest => some (a.toNat + 2 ^ 8 * b.toNat + 2 ^ 16 * c.toNat + 2 ^ 24 * d.toNat, rest)
  | _ => none

/-- `k` fields off the front, each taken by `f`. -/
def takeMany {α : Type} (f : List Byte → Option (α × List Byte)) : Nat → List Byte → Option (List α × List Byte)
  | 0, bs => some ([], bs)
  | k + 1, bs => do
    let (a, bs) ← f bs
    let (rest, bs) ← takeMany f k bs
    pure (a :: rest, bs)

/-- A text off the front. -/
def takeText (bs : List Byte) : Option (List Nat × List Byte) := do
  let (n, bs) ← take8 bs
  takeMany take8 n bs

/-- The cell a pattern byte names (R172); a value above 64 names a rank above 4. -/
def cellOf (n : Nat) : Option PinCell :=
  if n = 0 then none else some { rank := (n - 1) / 16 + 1, cls := (n - 1) % 16 + 1 }

/-- A pattern cell off the front. -/
def takeCell (bs : List Byte) : Option (Option PinCell × List Byte) := do
  let (n, bs) ← take8 bs
  pure (cellOf n, bs)

/-- A class entry off the front. -/
def takeClass (bs : List Byte) : Option (ClassEntry × List Byte) := do
  let (entryMin, bs) ← take16 bs
  let (entryMax, bs) ← take16 bs
  let (holdMin, bs) ← take16 bs
  let (holdMax, bs) ← take16 bs
  let (abort, bs) ← take16 bs
  let (engage, bs) ← take32 bs
  pure ({ entryMin, entryMax, holdMin, holdMax, abort, engage }, bs)

/-- A connector type entry off the front, with the widths and counts of `bytesType`
(DESIGN CHOICE, notes/assumptions/14.md and 15.md; unsafe). -/
def takeType (bs : List Byte) : Option (TypeEntry × List Byte) := do
  let (name, bs) ← takeText bs
  let (cols, bs) ← take8 bs
  let (rows, bs) ← take8 bs
  let (ranks, bs) ← take8 bs
  let (onsets, bs) ← takeMany take32 ranks bs
  let (seat, bs) ← take32 bs
  let (tol, bs) ← take32 bs
  let (slope, bs) ← take16 bs
  let (touch, bs) ← take16 bs
  let (p, bs) ← take8 bs
  let (patterns, bs) ← takeMany (takeMany takeCell rows) p bs
  let (assign, bs) ← takeMany take8 cols bs
  pure ({ name, cols, rows, ranks, onsets, seat, tol, slope, touch, patterns, assign }, bs)

/-- The fields of the step kind of a code. -/
def takeBody (kind : Nat) (bs : List Byte) : Option (StepBody × List Byte) :=
  match kind with
  | 0 => do
    let (t, bs) ← take32 bs
    let (v, bs) ← take16 bs
    pure (.move t v, bs)
  | 1 => do
    let (l, bs) ← take32 bs
    let (v, bs) ← take16 bs
    let (a, bs) ← take32 bs
    let (b, bs) ← take32 bs
    pure (.probe l v a b, bs)
  | 2 => do
    let (v, bs) ← take16 bs
    let (c, bs) ← take16 bs
    pure (.press v c, bs)
  | 3 => do
    let (t, bs) ← take16 bs
    pure (.dwell t, bs)
  | 4 => do
    let (t, bs) ← take32 bs
    let (v, bs) ← take16 bs
    pure (.retract t v, bs)
  | _ => none

/-- The fields of the request of a code, and the bytes left over, with the widths of `encodeRequest`
(DESIGN CHOICE, notes/assumptions/14.md; unsafe). -/
def takeFields (code : Nat) (bs : List Byte) : Option (Request × List Byte) :=
  match code with
  | 1 => some (.ident, bs)
  | 2 => some (.state, bs)
  | 3 => do
    let (op, bs) ← take8 bs
    let (k, bs) ← take16 bs
    pure (.mask op k, bs)
  | 4 => some (.restart, bs)
  | 5 => do
    let (n, bs) ← take8 bs
    let (e, bs) ← takeClass bs
    pure (.classPut n e, bs)
  | 6 => do
    let (n, bs) ← take8 bs
    pure (.classDrop n, bs)
  | 7 => do
    let (n, bs) ← take8 bs
    pure (.classGet n, bs)
  | 8 => do
    let (t, bs) ← take16 bs
    let (e, bs) ← takeType bs
    pure (.cataloguePut t e, bs)
  | 9 => do
    let (t, bs) ← take16 bs
    pure (.catalogueDrop t, bs)
  | 10 => do
    let (t, bs) ← take16 bs
    pure (.catalogueGet t, bs)
  | 11 => some (.tare, bs)
  | 12 => some (.retrain, bs)
  | 13 => some (.headMap, bs)
  | 14 => do
    let (t, bs) ← take16 bs
    let (f, bs) ← take8 bs
    let (n, bs) ← takeText bs
    let (m, bs) ← take8 bs
    pure (.job t f n m, bs)
  | 15 => do
    let (k, bs) ← take8 bs
    if 5 ≤ k then pure (.step (.unknownKind k) 0, [])
    else do
      let (l, bs) ← take8 bs
      let (b, bs) ← takeBody k bs
      pure (.step (.known b) l, bs)
  | 16 => some (.stepFlush, bs)
  | 17 => some (.start, bs)
  | 18 => some (.stop, bs)
  | 19 => some (.home, bs)
  | 20 => some (.retract, bs)
  | 21 => some (.clearFault, bs)
  | 22 => do
    let (c, bs) ← take8 bs
    let (f, bs) ← take16 bs
    let (n, bs) ← take8 bs
    pure (.profileRead c f n, bs)
  | 23 => do
    let (p, bs) ← take16 bs
    let (i, bs) ← take8 bs
    pure (.resultSummary p i, bs)
  | 24 => do
    let (p, bs) ← take16 bs
    let (c, bs) ← take8 bs
    pure (.resultColumn p c, bs)
  | 25 => do
    let (p, bs) ← take16 bs
    let (c, bs) ← take8 bs
    pure (.resultPins p c, bs)
  | 26 => do
    let (p, bs) ← take16 bs
    pure (.resultRelease p, bs)
  | 27 => do
    let (t, bs) ← take16 bs
    let (k, bs) ← take8 bs
    let (l, bs) ← take8 bs
    let (n, bs) ← take8 bs
    pure (.qualify t k l n, bs)
  | 28 => do
    let (t, bs) ← take16 bs
    let (k, bs) ← take8 bs
    pure (.qualifyGet t k, bs)
  | 29 => do
    let (p, bs) ← take16 bs
    let (o, bs) ← take8 bs
    let (c, bs) ← take16 bs
    pure (.dispose p o c, bs)
  | 30 => do
    let (t, bs) ← take16 bs
    pure (.holdTime t, bs)
  | 31 => do
    let (es, bs) ← takeMany take8 8 bs
    pure (.guardConfig es, bs)
  | _ => none

/-- The request that a payload holds under a request code (R172), absent where the payload is not of the size the code
requires (R174, check 4). A STEP whose kind names none of the five passes at any size. -/
def decodeRequest (code : Nat) (payload : List Byte) : Option Request :=
  match takeFields code payload with
  | some (r, []) => some r
  | _ => none

end Sys2Proof
end

