-- ==== Sys2Proof/Config.lean ====
section
/-! DEFINITION. The numbers the manual fixes for the part, each under the rule that gives it. The manual leaves no
value to the implementation, so nothing here is opaque. -/

namespace Sys2Proof.Config

/-- R180: the vendor name "Rencavo", as character codes. -/
def vendorName : List Nat := [82, 101, 110, 99, 97, 118, 111]
/-- R180: the part name "Jendaz 648", as character codes. -/
def partName : List Nat := [74, 101, 110, 100, 97, 122, 32, 54, 52, 56]
/-- R180: the design revision. -/
def designRevision : Nat := 3

/-- R172: the start byte. -/
def startByte : Byte := 0xA5
/-- R172, R173: the most payload bytes a frame carries. -/
def maxPayload : Nat := 240
/-- R174: a request is taken only while fewer replies than this wait. -/
def replyRoom : Nat := 8

/-- R1: places of the pin class table. -/
def classPlaces : Nat := 16
/-- R1: capacity of the connector type table. -/
def typeCapacity : Nat := 64
/-- R19: the overtravel depth lies this far below the seat band, in µm. -/
def overtravelMargin : Nat := 50
/-- R20: the most a finger cap may be, in dN. -/
def maxFingerCap : Nat := 19500

/-- R22: finger positions on the head. -/
def positions : Nat := 48
/-- R36, R37: the consecutive-bad-frame count that triggers a retrain. -/
def badFrameLimit : Nat := 8
/-- R41, R71: samples of a tare, of the fingers and of the ram alike. -/
def tareSamples : Nat := 64
/-- R35: a finger sample saturates here, in dN. -/
def maxFinger : Nat := 20000
/-- R87: a ram sample saturates here, in N. -/
def maxRam : Nat := 60000

/-- R50, R52: capacity of the step queue and of a program. -/
def maxSteps : Nat := 16
/-- R68: the ordinary stop rate, in mm/s². -/
def slowRate : Nat := 2000
/-- R68: the stop rate that ends or aborts a PRESS step, in mm/s². -/
def fastRate : Nat := 20000
/-- R68: the rate in mm/s² that changes the ramp output by 0.1 mm/s in the 100 µs of one ram sample (DEDUCED,
notes/assumptions/6.md; unsafe). -/
def rateUnit : Nat := 1000
/-- R69: a speed in 0.1 mm/s, squared and divided by this, is the distance in µm in which the ordinary rate stops it. -/
def stopDivisor : Int := 400
/-- R67: the speed of homing, in 0.1 mm/s. -/
def homingSpeed : Int := 50
/-- R67: the speed of a retract, in 0.1 mm/s. -/
def retractSpeed : Int := 200
/-- R73: the PROBE clamp, in 0.1 mm/s. -/
def probeSpeed : Nat := 100
/-- R74, R75, R84: how near a target counts as reached, in µm. -/
def arrival : Nat := 3
/-- R69: ram samples in the 10 ms of the test of rest (DEDUCED, notes/assumptions/1.md; unsafe). -/
def restSamples : Nat := 100
/-- R69: how far the encoder may have moved in them, in µm. -/
def restTravel : Nat := 2
/-- R79: the travel limit, in µm. -/
def travelLimit : Int := 199500
/-- R108: the most the applied ram cap may be, in N. -/
def maxRamCap : Nat := 50000

/-- R93: bins of a channel. -/
def bins : Nat := 800
/-- R96: depth covered by one bin, in µm. -/
def binDepth : Nat := 5
/-- R114: the knee test compares bins this far apart. -/
def kneeSpan : Nat := 10

/-- R137: capacity of the result store. -/
def storeCapacity : Nat := 32
/-- R138: the greatest press number. -/
def maxPress : Nat := 65535
/-- R152: capacity of the qualification table. -/
def qualCapacity : Nat := 128
/-- R159: the hold time in effect after a reset, in s. -/
def defaultHoldTime : Nat := 120
/-- R87: ram samples in one second, which is the model's measure of time (DEDUCED, notes/assumptions/1.md; unsafe). -/
def ticksPerSecond : Nat := 10000
/-- R87: ram samples in one millisecond (DEDUCED, notes/assumptions/1.md; unsafe). -/
def ticksPerMs : Nat := 10

end Sys2Proof.Config
end

