-- ==== Sys2Proof/Machine/State.lean ====
section
/-! DEFINITION. Everything the manual gives the part, block by block, as plain data, and the part right after a
reset. A name that differs from the manual's is explained where it stands. -/

namespace Sys2Proof.Machine

/-! ## Names shared by several blocks -/

/-- R175: the status codes of replies. -/
inductive Status where
  | ok | unknownRequest | notPermitted | badLength | badField | busy | noJob | notHomed | jobExists | inUse
  | notFound | full | queueFull | programFull | programOrder | programIncomplete | guardOpen | headNotReady
  | sensingIncomplete | notQualified | held | resultsFull | notHeld
  deriving DecidableEq, Repr

/-- R49: the kinds of step. -/
inductive StepKind where
  | move | probe | press | dwell | retract
  deriving DecidableEq, Repr

/-- R61, R64, R172: the end causes of steps and programs, in the order of their codes. -/
inductive EndCause where
  | reached | touched | seated | elapsed | completed | noPress | underrun | stopped | guard | stall
  | travelLimit | driveFault | noTouch | touchWindow | forceCap | earlySeat | overtravel | sensingLost
  deriving DecidableEq, Repr

/-- R129, R130, R132: the verdicts of pins, ranks and holds, in the order of their codes. -/
inductive Verdict where
  | pass | lowEntry | highEntry | holdLow | holdHigh | suspect | unjudged
  deriving DecidableEq, Repr

/-- R134: the press verdicts. -/
inductive PressVerdict where
  | accept | review | incomplete | reject
  deriving DecidableEq, Repr

/-- R142: the record states (`opened` is OPEN). -/
inductive RecordState where
  | opened | complete | held | disposed
  deriving DecidableEq, Repr

/-- R67: the stroke states. -/
inductive Stroke where
  | unhomed | homing | idle | running | paused | stopping | retracting | faulted
  deriving DecidableEq, Repr

/-- R22: the head states. -/
inductive HeadStatus where
  | detached | training | enumerating | ready | noLink
  deriving DecidableEq, Repr

/-- R71: the homing results. -/
inductive HomingResult where
  | none | homed | guard | stopped | stall | notFound | driveFault
  deriving DecidableEq, Repr

/-- R80: the sources of a drive fault. -/
inductive FaultSource where
  | readyLost | faultInput | stopTimeout
  deriving DecidableEq, Repr

/-- R163: the kinds of a guard input. -/
inductive GuardKind where
  | absent | door | curtain | estop
  deriving DecidableEq, Repr

/-- R163: the debounced states of a guard input (`opened` is OPEN). -/
inductive Debounced where
  | closed | opened | unsettled
  deriving DecidableEq, Repr

/-- R152: the qualification levels. -/
inductive Level where
  | q1 | q2 | qp
  deriving DecidableEq, Repr

/-! ## The links -/

/-- One field of a payload, as R172 encodes it: unsigned integers of one, two and four bytes, signed integers of two
and four, a flag, a text, and a set of numbered members. -/
inductive Wire where
  | u8 (n : Nat)
  | u16 (n : Nat)
  | u32 (n : Nat)
  | s16 (n : Int)
  | s32 (n : Int)
  | flag (b : Bool)
  | text (chars : List Nat)
  | set (members : List Nat)
  deriving DecidableEq, Repr

/-- A reply that waits in a reply queue (R175). -/
structure Reply where
  tag : Nat
  status : Status
  body : List Wire
  deriving DecidableEq, Repr

/-- R176: the notice kinds. -/
inductive NoticeKind where
  | headAttached | headDetached | sensingDegraded | cellAlert | queueLow | stepDone | pressDone | holdOverdue
  | guardOpen | guardClosed | ramFault
  deriving DecidableEq, Repr

/-- R176: a notice with the payload of its kind. -/
inductive Notice where
  | headAttached (kind : Nat) (orientation : Orientation) (width : Nat) (lanes : List Nat)
      (present conflicting absent unassigned : Nat)
  | headDetached (left : HeadStatus)
  | sensingDegraded (width : Nat) (lanes failed : List Nat)
  | cellAlert (position kind value : Nat)
  | queueLow (press next further : Nat)
  | stepDone (press index : Nat) (kind : StepKind) (cause : EndCause) (position : Int)
  | pressDone (press : Nat) (verdict : PressVerdict) (record : RecordState)
  | holdOverdue (press : Nat) (verdict : PressVerdict) (audit : Bool) (seconds : Nat)
  | guardOpen (input : Nat) (kind : GuardKind) (openSet : List Nat)
  | guardClosed (input : Nat) (kind : GuardKind) (ms : Nat)
  | ramFault (source : FaultSource) (left : Stroke)
  deriving DecidableEq, Repr

/-- R176: an entry of a pending-notice map. -/
structure PendingNotice where
  notice : Notice
  count : Nat
  deriving DecidableEq, Repr

/-- R172: the frame kinds a transmitter sends. -/
inductive FrameKind where
  | reply | replyPart | notice
  deriving DecidableEq, Repr

/-- R172, R173: a frame to be sent; its start byte, length and CRC follow from these (`frameBytes`). -/
structure Frame where
  kind : FrameKind
  tag : Nat
  code : Nat
  payload : List Byte
  deriving DecidableEq, Repr

/-- R172: a receiver is hunting, or assembling the bytes that have followed the start byte. -/
inductive Receiver where
  | hunting
  | assembling (bytes : List Byte)
  deriving DecidableEq, Repr

/-- One link (R172, R174, R176, R177, R179). `tx` holds the frames of the chain being sent, the first of them on the
line; it is empty while the transmitter is idle. -/
structure LinkState where
  rx : Receiver
  replies : List Reply
  tx : List Frame
  mask : List NoticeKind
  notices : List PendingNotice
  seq : Nat
  deriving DecidableEq, Repr

/-! ## The catalogue -/

/-- R1: the pin class table and the connector type table, each in ascending order of key. -/
structure Catalogue where
  classes : List (Nat × ClassEntry)
  types : List (Nat × TypeEntry)
  deriving DecidableEq, Repr

/-- R21: the catalogue copy a record takes: the type's entry and the entries of the classes its grid names. The
quantities of R19 and R20 are functions of it (Machine/Operands.lean). -/
structure CatalogueCopy where
  entry : TypeEntry
  classes : List (Nat × ClassEntry)
  deriving DecidableEq, Repr

/-! ## The sensing head -/

/-- R22, R28: the widths. -/
inductive Width where
  | four | two | one
  deriving DecidableEq, Repr

/-- R30: a position's status. -/
inductive PosStatus where
  | present | conflicting | absent
  deriving DecidableEq, Repr

/-- R35: a tared sample with its suspect mark; a saturated sample is suspect and reads 20,000. -/
structure FingerSample where
  value : Nat
  suspect : Bool
  deriving DecidableEq, Repr

/-- R33: an entry of the position table. `lastSeq` is the sequence number R38 remembers. -/
structure PosEntry where
  status : PosStatus
  serial : Option Nat
  cellKind : Option Nat
  claimants : Option Nat
  failed : Bool
  tared : Bool
  offset : Int
  overtemp : Bool
  drift : Bool
  lastAlert : Option (Nat × Nat)
  lastSeq : Option Nat
  latest : Option FingerSample
  deriving DecidableEq, Repr

/-- R30: a cell's answer to the roll call. -/
structure CellAnswer where
  serial : Nat
  position : Nat
  kind : Nat
  deriving DecidableEq, Repr

/-- R29, R30: what an enumeration in progress waits for. -/
inductive EnumStage where
  | none | descriptor | rollCall
  deriving DecidableEq, Repr

/-- R41: what a tare has gathered for one position. -/
structure TareSum where
  position : Nat
  sum : Int
  count : Nat
  deriving DecidableEq, Repr

/-- R40, R41: a tare in progress, with the tag its reply will carry. -/
structure Tare where
  tag : Nat
  instants : Nat
  sums : List TareSum
  deriving DecidableEq, Repr

/-- The head interface (R22 to R45). `attempt` is the row of R25's table in progress, 0 when none; `runFailed` the
lanes that failed an attempt of the training run; `enumerated` that an enumeration has completed since the last reset or
detach (R44); `doneKind` and `doneOrientation` the head kind and orientation of the last that has (R29); `acks` the alerts acknowledged at the last frame instant (R38). -/
structure Head where
  status : HeadStatus
  width : Option Width
  lanes : List Nat
  failedLanes : List Nat
  runFailed : List Nat
  attempt : Nat
  kind : Option Nat
  orientation : Option Orientation
  enumerated : Bool
  doneKind : Option Nat
  doneOrientation : Option Orientation
  stage : EnumStage
  answers : List CellAnswer
  unassigned : Nat
  bad : List Nat
  table : List PosEntry
  tare : Option Tare
  acks : List (Nat × Nat)
  deriving DecidableEq, Repr

/-! ## The job -/

/-- R47: the program modes. -/
inductive ProgramMode where
  | preloaded | streamed
  deriving DecidableEq, Repr

/-- R51: the grammar positions (`closing` is CLOSED). -/
inductive Grammar where
  | opening | probed | pressed | closing
  deriving DecidableEq, Repr

/-- R49: an accepted step record. -/
structure StepRecord where
  body : StepBody
  last : Bool
  deriving DecidableEq, Repr

/-- R46, R73, R85: the step in hand. `endsNow` marks an end that R74, R75 or R77 gives at the hand-over. -/
structure InHand where
  record : StepRecord
  index : Nat
  start : Int
  speedUsed : Option Nat
  clamped : Option Bool
  travelled : Nat
  peak : Nat
  endsNow : Bool
  deriving DecidableEq, Repr

/-- R46: what a RUNNING job holds beside the rest. `underrun` says that the underrun timer runs; `restMade` that the
motion block has made the rest report (R65); `fingersGone` that the head has left READY since START, so that the column
channels take no further samples (R88). -/
structure Run where
  press : Nat
  map : List Nat
  handed : Nat
  inHand : Option InHand
  ended : Bool
  underrun : Bool
  restMade : Bool
  fingersGone : Bool
  deriving DecidableEq, Repr

/-- R46: the job. The job state is NONE where there is no job, PREPARED where `run` is absent, RUNNING where it is not. -/
structure Job where
  typeId : Nat
  first : Nat
  serial : List Nat
  mode : ProgramMode
  queue : List StepRecord
  grammar : Grammar
  pressAccepted : Bool
  count : Nat
  run : Option Run
  deriving DecidableEq, Repr

/-! ## The motion block -/

/-- R68, R82: the ramp output, the signed speed sent to the drive in 0.1 mm/s: following the commanded speed at the ordinary
rate, or falling to zero at the stop rate in force, in mm/s². -/
inductive Ramp where
  | following (speed : Int)
  | falling (rate : Nat) (speed : Int)
  deriving DecidableEq, Repr

/-- R86: the ramp output is zero, and stays so until a speed is commanded. -/
abbrev Ramp.zero : Ramp := .following 0

/-- R71: how far a homing has come: seeking the switch, coming to rest after it, or taring the ram cell at the rest point. -/
inductive HomingPhase where
  | none
  | seeking
  | settling
  | taring (rest : Int) (sum : Int) (count : Nat)
  deriving DecidableEq, Repr

/-- R82: why a stop was begun: an abort cause, or the end of a homing. -/
inductive StopCause where
  | cause (c : EndCause)
  | homing (r : HomingResult)
  deriving DecidableEq, Repr

/-- R71, R83, R84: what follows a stop. -/
inductive FollowOn where
  | retract | idle | unhomed
  deriving DecidableEq, Repr

/-- R82: the stop record. -/
structure StopRecord where
  cause : StopCause
  rate : Nat
  dropped : Bool
  follow : FollowOn
  deriving DecidableEq, Repr

/-- The motion block (R67 to R86). `enc` is the encoder's count as last latched, `zero` the count that stands for
position 0, `recent` the counts latched with the ram samples of the last 10 ms, the newest first (R69). -/
structure Motion where
  stroke : Stroke
  commanded : Int
  ramp : Ramp
  enc : Int
  zero : Int
  recent : List Int
  referenced : Bool
  homing : HomingResult
  phase : HomingPhase
  ramOffset : Int
  stop : Option StopRecord
  driveReady : Bool
  faultInput : Bool
  deriving DecidableEq, Repr

/-! ## The profile unit -/

/-- R93: a bin. -/
structure Bin where
  value : Nat
  empty : Bool
  filled : Bool
  suspect : Bool
  deriving DecidableEq, Repr

/-- A channel of the profile buffer (R93): bin numbers, strictly rising, with their bins; a bin number not listed
reads as the empty bin, which is never listed (`binsWf`). -/
abbrev Bins := List (Nat × Bin)

/-- R100: the report of a completed ram bin: its number, its value and its suspect flag as they then stand. -/
structure Completion where
  bin : Nat
  value : Nat
  suspect : Bool
  deriving DecidableEq, Repr

/-- The profile unit (R87 to R105). `map` is the column map of the profile's press, which R104 reports. -/
structure Profile where
  latestRam : Nat
  press : Option Nat
  complete : Bool
  typeId : Option Nat
  cols : Option Nat
  map : List Nat
  touch : Option Int
  touchForce : Option Nat
  bases : Option (List FingerSample)
  binning : Bool
  deepest : Option Nat
  pressEnd : Option Nat
  leading : Option Nat
  channels : List Bins
  deriving DecidableEq, Repr

/-! ## The seat and limit monitor -/

/-- R106: the phases. -/
inductive Phase where
  | inactive | watching | pressing | settled
  deriving DecidableEq, Repr

/-- R106: what the monitor loads from the catalogue copy. A column cap is absent for an empty column. -/
structure Limits where
  press : Nat
  caps : List (Option Nat)
  searchStart : Nat
  bandLow : Nat
  bandHigh : Nat
  overtravel : Nat
  kneeRise : Nat
  deriving DecidableEq, Repr

/-- The seat and limit monitor (R106). -/
structure Monitor where
  phase : Phase
  limits : Option Limits
  ramCap : Option Nat
  knee : Option Nat
  seat : Option Nat
  deriving DecidableEq, Repr

/-! ## The result store -/

/-- R139, R160: a disposition's outcome. -/
inductive DisposeOutcome where
  | accepted | rework | scrap
  deriving DecidableEq, Repr

/-- R139: a disposition. -/
structure Disposition where
  outcome : DisposeOutcome
  operator : Nat
  deriving DecidableEq, Repr

/-- R85: a step outcome. -/
structure StepOutcome where
  index : Nat
  kind : StepKind
  cause : EndCause
  start : Int
  stop : Int
  travelled : Nat
  peak : Nat
  speedUsed : Option Nat
  clamped : Option Bool
  deriving DecidableEq, Repr

/-- R133, R140: a rank result; carry, peak, step and share are present for a complete window. -/
structure RankResult where
  rank : Nat
  pins : Nat
  carry : Option Nat
  peak : Option Nat
  step : Option Nat
  share : Option Nat
  verdict : Verdict
  deriving DecidableEq, Repr

/-- R140: a column result. `judged` is the column status, JUDGED or ABSENT. -/
structure ColumnResult where
  column : Nat
  position : Nat
  judged : Bool
  base : Option FingerSample
  ranks : List RankResult
  hold : Option Nat
  holdVerdict : Option Verdict
  deriving DecidableEq, Repr

/-- R141: a pin verdict. -/
structure PinResult where
  column : Nat
  row : Nat
  verdict : Verdict
  deriving DecidableEq, Repr

/-- R139 to R141: a press record. -/
structure Record where
  press : Nat
  state : RecordState
  typeId : Nat
  serial : List Nat
  first : Nat
  orientation : Orientation
  headKind : Nat
  level : Level
  audit : Bool
  width : Width
  touch : Option Int
  seat : Option Nat
  cause : Option EndCause
  verdict : Option PressVerdict
  peak : Nat
  disposition : Option Disposition
  copy : CatalogueCopy
  outcomes : List StepOutcome
  columns : List ColumnResult
  pins : List PinResult
  deriving DecidableEq, Repr

/-- R137, R138: the result store, its records in the order of their STARTs. -/
structure Store where
  records : List Record
  next : Nat
  deriving DecidableEq, Repr

/-! ## Qualification and hold -/

/-- R152: an entry of the qualification table. -/
structure QualEntry where
  level : Level
  interval : Nat
  count : Nat
  deriving DecidableEq, Repr

/-- R158: the hold-overdue timer. -/
inductive HoldTimer where
  | stopped | running | expired
  deriving DecidableEq, Repr

/-- The qualification unit (R152, R158, R159). The table's key is `qualKey` of type id and head kind; `remaining` is
the time remaining, in ram samples of 100 µs; `startedWith` the hold time with which the timer started. -/
structure Qualification where
  table : List (Nat × QualEntry)
  held : Option Nat
  timer : HoldTimer
  remaining : Option Nat
  overdue : Bool
  startedWith : Option Nat
  holdTime : Nat
  deriving DecidableEq, Repr

/-! ## The guards -/

/-- R165: the first-opened mark: an input, or reset. -/
inductive FirstOpened where
  | reset
  | input (g : Nat)
  deriving DecidableEq, Repr

/-- The guard unit (R163 to R171). `openTicks` is the time since the open-guard set became non-empty, in ram samples
of 100 µs. -/
structure Guards where
  kinds : List GuardKind
  states : List Debounced
  firstOpened : Option FirstOpened
  lastClosed : Option Nat
  openTicks : Nat
  deriving DecidableEq, Repr

/-! ## The part -/

/-- The whole part, and the queue of commands that wait, first in, first out. -/
structure State where
  pending : List Instr
  cell : LinkState
  line : LinkState
  cat : Catalogue
  head : Head
  job : Option Job
  motion : Motion
  profile : Profile
  monitor : Monitor
  store : Store
  qual : Qualification
  guards : Guards
  deriving DecidableEq, Repr

/-- Reasons to stop with a fault. There is none: the part answers every command (R175), and its own drive fault is the
stroke state FAULTED (R80). Safe: nothing is cut short. -/
inductive Fault where
  deriving DecidableEq, Repr

/-- Reasons to have no meaning for a command. -/
inductive Refusal where
  /-- Raised by `exec` alone, for a row of the table without a meaning yet; every row has one, so it is not raised.
  Safe: nothing is claimed of a refused command. -/
  | notModelled (mnemonic : String)
  deriving DecidableEq, Repr

/-! ## Reset -/

/-- R24: the empty form of a position entry. -/
def PosEntry.blank : PosEntry :=
  { status := .absent, serial := none, cellKind := none, claimants := none, failed := false, tared := false,
    offset := 0, overtemp := false, drift := false, lastAlert := none, lastSeq := none, latest := none }

/-- R176: every notice kind, in the order of their codes; the cell link's default mask (R179). -/
def NoticeKind.all : List NoticeKind :=
  [.headAttached, .headDetached, .sensingDegraded, .cellAlert, .queueLow, .stepDone, .pressDone, .holdOverdue,
   .guardOpen, .guardClosed, .ramFault]

/-- R179: the line link's default mask. -/
def NoticeKind.lineDefault : List NoticeKind :=
  [.pressDone, .holdOverdue, .guardOpen, .guardClosed, .ramFault]

/-- R179: a link after a reset, with its default mask. That its transmitter is idle after power-on, which R179 does not list,
is DESIGN CHOICE (notes/assumptions/17.md; unsafe). -/
def LinkState.reset (mask : List NoticeKind) : LinkState :=
  { rx := .hunting, replies := [], tx := [], mask := mask, notices := [], seq := 0 }

/-- R45: the head interface after a reset. The values of `runFailed`, `attempt`, `stage`, `answers`, `unassigned` and
`acks` are DESIGN CHOICE (notes/assumptions/17.md; unsafe). -/
def Head.reset : Head :=
  { status := .detached, width := none, lanes := [], failedLanes := [], runFailed := [], attempt := 0, kind := none,
    orientation := none, enumerated := false, doneKind := none, doneOrientation := none, stage := .none, answers := [],
    unassigned := 0, bad := [0, 0, 0, 0], table := List.replicate Config.positions PosEntry.blank, tare := none, acks := [] }

/-- R86: the motion block after a reset. The levels of drive-ready and of the fault input, the homing phase and `recent` are
DESIGN CHOICE (notes/assumptions/17.md; unsafe). -/
def Motion.reset : Motion :=
  { stroke := .unhomed, commanded := 0, ramp := .zero, enc := 0, zero := 0, recent := [], referenced := false, homing := .none,
    phase := .none, ramOffset := 0, stop := none, driveReady := false, faultInput := false }

/-- R94: the profile unit after a reset. `latestRam` is DESIGN CHOICE (notes/assumptions/17.md; unsafe). -/
def Profile.reset : Profile :=
  { latestRam := 0, press := none, complete := false, typeId := none, cols := none, map := [], touch := none,
    touchForce := none, bases := none, binning := false, deepest := none, pressEnd := none, leading := none,
    channels := [] }

/-- R106: the monitor after a reset. -/
def Monitor.reset : Monitor :=
  { phase := .inactive, limits := none, ramCap := none, knee := none, seat := none }

/-- R152, R159, R162: the qualification unit after a reset. `startedWith` is DESIGN CHOICE (notes/assumptions/17.md; unsafe). -/
def Qualification.reset : Qualification :=
  { table := [], held := none, timer := .stopped, remaining := none, overdue := false, startedWith := none,
    holdTime := Config.defaultHoldTime }

/-- R164: the guard unit after a reset. `openTicks` is DESIGN CHOICE (notes/assumptions/17.md; unsafe). -/
def Guards.reset : Guards :=
  { kinds := List.replicate 8 .door, states := List.replicate 8 .unsettled, firstOpened := some .reset,
    lastClosed := none, openTicks := 0 }

/-- The part right after power-on (R2, R45, R46, R86, R94, R106, R151, R152, R162, R164, R179), no command waiting. -/
def State.reset : State :=
  { pending := [], cell := LinkState.reset NoticeKind.all, line := LinkState.reset NoticeKind.lineDefault,
    cat := { classes := [], types := [] }, head := Head.reset, job := none, motion := Motion.reset,
    profile := Profile.reset, monitor := Monitor.reset, store := { records := [], next := 1 },
    qual := Qualification.reset, guards := Guards.reset }

end Sys2Proof.Machine
end

