-- ==== Sys2Proof/Machine/Wire.lean ====
section
/-! DEFINITION. How replies and notices travel: the codes of named values, the bytes of a payload field, the CRC and
the frames of R172, R173, R175 and R176. -/

namespace Sys2Proof.Machine

/-! ## Codes -/

/-- R175: the number of a status code. -/
def statusCode : Status → Nat
  | .ok => 0 | .unknownRequest => 1 | .notPermitted => 2 | .badLength => 3 | .badField => 4 | .busy => 5 | .noJob => 6
  | .notHomed => 7 | .jobExists => 8 | .inUse => 9 | .notFound => 10 | .full => 11 | .queueFull => 12
  | .programFull => 13 | .programOrder => 14 | .programIncomplete => 15 | .guardOpen => 16 | .headNotReady => 17
  | .sensingIncomplete => 18 | .notQualified => 19 | .held => 20 | .resultsFull => 21 | .notHeld => 22

/-- R172: the number of an end cause. -/
def causeCode : EndCause → Nat
  | .reached => 0 | .touched => 1 | .seated => 2 | .elapsed => 3 | .completed => 4 | .noPress => 5 | .underrun => 6
  | .stopped => 7 | .guard => 8 | .stall => 9 | .travelLimit => 10 | .driveFault => 11 | .noTouch => 12
  | .touchWindow => 13 | .forceCap => 14 | .earlySeat => 15 | .overtravel => 16 | .sensingLost => 17

/-- R172: the number of a pin, rank or hold verdict. -/
def verdictCode : Verdict → Nat
  | .pass => 0 | .lowEntry => 1 | .highEntry => 2 | .holdLow => 3 | .holdHigh => 4 | .suspect => 5 | .unjudged => 6

/-- R172: the number of a press verdict. -/
def pressVerdictCode : PressVerdict → Nat
  | .accept => 0 | .review => 1 | .incomplete => 2 | .reject => 3

/-- R172: the number of a record state. -/
def recordStateCode : RecordState → Nat
  | .opened => 0 | .complete => 1 | .held => 2 | .disposed => 3

/-- R172: the number of a stroke state. -/
def strokeCode : Stroke → Nat
  | .unhomed => 0 | .homing => 1 | .idle => 2 | .running => 3 | .paused => 4 | .stopping => 5 | .retracting => 6
  | .faulted => 7

/-- R172: the number of a head state. -/
def headCode : HeadStatus → Nat
  | .detached => 0 | .training => 1 | .enumerating => 2 | .ready => 3 | .noLink => 4

/-- R172: the number of a homing result. -/
def homingCode : HomingResult → Nat
  | .none => 0 | .homed => 1 | .guard => 2 | .stopped => 3 | .stall => 4 | .notFound => 5 | .driveFault => 6

/-- R49, R172: the number of a step kind. -/
def kindCode : StepKind → Nat
  | .move => 0 | .probe => 1 | .press => 2 | .dwell => 3 | .retract => 4

/-- R22, R172: the number of an orientation, in the order R29 lists them. -/
def orientationCode : Orientation → Nat
  | .normal => 0 | .reversed => 1

/-- R80, R172: the number of a fault source, in the order R80 lists them. -/
def sourceCode : FaultSource → Nat
  | .readyLost => 0 | .faultInput => 1 | .stopTimeout => 2

/-- R163, R172: the number of a guard kind, in the order R163 lists them. -/
def guardKindCode : GuardKind → Nat
  | .absent => 0 | .door => 1 | .curtain => 2 | .estop => 3

/-- R163, R172: the number of a debounced state, in the order R163 lists them. -/
def debouncedCode : Debounced → Nat
  | .closed => 0 | .opened => 1 | .unsettled => 2

/-- R165, R181: a first-opened mark in one byte: the input's number, or 0 for reset
(DESIGN CHOICE, notes/assumptions/14.md; unsafe). -/
def markCode : FirstOpened → Nat
  | .reset => 0
  | .input g => g

/-- R153, R172: the number of a level, in the order R153 lists them. -/
def levelCode : Level → Nat
  | .q1 => 0 | .q2 => 1 | .qp => 2

/-- R33, R172: the number of a position status, in the order R33 lists them. -/
def posStatusCode : PosStatus → Nat
  | .present => 0 | .conflicting => 1 | .absent => 2

/-- R139, R172: the number of a disposition's outcome. -/
def disposeCode : DisposeOutcome → Nat
  | .accepted => 0 | .rework => 1 | .scrap => 2

/-- R176: the code of a notice kind. -/
def noticeCode : NoticeKind → Nat
  | .headAttached => 1 | .headDetached => 2 | .sensingDegraded => 3 | .cellAlert => 4 | .queueLow => 5 | .stepDone => 6
  | .pressDone => 7 | .holdOverdue => 8 | .guardOpen => 9 | .guardClosed => 10 | .ramFault => 11

/-- R172: the number of a frame kind. -/
def frameKindCode : FrameKind → Nat
  | .reply => 2 | .replyPart => 3 | .notice => 4

/-- R28: the number of lanes of a width. -/
def widthLanes : Width → Nat
  | .four => 4 | .two => 2 | .one => 1

/-- R44, R181: a width in effect as replies report it, its lane count or 0 when none. -/
def widthCode : Option Width → Nat
  | some w => widthLanes w
  | none => 0

/-- R51: the kind of a step. -/
def bodyKind : StepBody → StepKind
  | .move .. => .move
  | .probe .. => .probe
  | .press .. => .press
  | .dwell .. => .dwell
  | .retract .. => .retract

/-- R176: the kind of a notice. -/
def noticeKind : Notice → NoticeKind
  | .headAttached .. => .headAttached
  | .headDetached .. => .headDetached
  | .sensingDegraded .. => .sensingDegraded
  | .cellAlert .. => .cellAlert
  | .queueLow .. => .queueLow
  | .stepDone .. => .stepDone
  | .pressDone .. => .pressDone
  | .holdOverdue .. => .holdOverdue
  | .guardOpen .. => .guardOpen
  | .guardClosed .. => .guardClosed
  | .ramFault .. => .ramFault

/-! ## Payload fields -/

/-- R172: a set of numbered members as a number; member n is bit n − 1. -/
def setBits (members : List Nat) : Nat := members.foldl (fun acc n => acc ||| 2 ^ (n - 1)) 0

/-- R172: the bytes of a field. A signed value travels in two's complement. -/
def wireBytes : Wire → List Byte
  | .u8 n => [byteOf n]
  | .u16 n => bytes16 n
  | .u32 n => bytes32 n
  | .s16 n => bytes16 (BitVec.ofInt 16 n).toNat
  | .s32 n => bytes32 (BitVec.ofInt 32 n).toNat
  | .flag b => [if b then 1 else 0]
  | .text t => bytesText t
  | .set m => bytes16 (setBits m)

/-- R172: the bytes of a payload. -/
def payloadBytes (body : List Wire) : List Byte := body.flatMap wireBytes

/-- R172: an optional field is a presence byte and the field's bytes, zeros when it is absent. -/
def optional (x : Option Wire) (zero : Wire) : List Wire := [.flag x.isSome, x.getD zero]

/-- R172: an optional one-byte field. -/
def opt8 (x : Option Nat) : List Wire := optional (x.map .u8) (.u8 0)
/-- R172: an optional two-byte field. -/
def opt16 (x : Option Nat) : List Wire := optional (x.map .u16) (.u16 0)
/-- R172: an optional four-byte field. -/
def opt32 (x : Option Nat) : List Wire := optional (x.map .u32) (.u32 0)
/-- R172: an optional position; one above position 0 travels in two's complement
(DESIGN CHOICE, notes/assumptions/14.md; unsafe). -/
def optPos (x : Option Int) : List Wire := optional (x.map .s32) (.s32 0)

/-- R176: the payload of a notice after its raise count. The head kind, the width and the guard input's number take one byte
each (DESIGN CHOICE, notes/assumptions/14.md; unsafe). -/
def noticeWire : Notice → List Wire
  | .headAttached k o w lanes p c a u => [.u8 k, .u8 (orientationCode o), .u8 w, .set lanes, .u8 p, .u8 c, .u8 a, .u8 u]
  | .headDetached left => [.u8 (headCode left)]
  | .sensingDegraded w lanes failed => [.u8 w, .set lanes, .set failed]
  | .cellAlert p k v => [.u8 p, .u8 k, .u16 v]
  | .queueLow p n f => [.u16 p, .u8 n, .u8 f]
  | .stepDone p i k c pos => [.u16 p, .u8 i, .u8 (kindCode k), .u8 (causeCode c), .s32 pos]
  | .pressDone p v r => [.u16 p, .u8 (pressVerdictCode v), .u8 (recordStateCode r)]
  | .holdOverdue p v a t => [.u16 p, .u8 (pressVerdictCode v), .flag a, .u16 t]
  | .guardOpen g k s => [.u8 g, .u8 (guardKindCode k), .set s]
  | .guardClosed g k t => [.u8 g, .u8 (guardKindCode k), .u32 t]
  | .ramFault src left => [.u8 (sourceCode src), .u8 (strokeCode left)]

/-! ## Frames -/

/-- One bit of the CRC of R172: polynomial 0x1021, most significant bit first. -/
def crcBit (c : BitVec 16) : BitVec 16 := if c.msb then (c <<< 1) ^^^ 0x1021 else c <<< 1

/-- One byte of the CRC. -/
def crcByte (c : BitVec 16) (b : Byte) : BitVec 16 :=
  crcBit (crcBit (crcBit (crcBit (crcBit (crcBit (crcBit (crcBit (c ^^^ (b.setWidth 16 <<< 8)))))))))

/-- R172: CRC-16, initial value 0xFFFF, no final inversion. -/
def crc16 (bs : List Byte) : BitVec 16 := bs.foldl crcByte 0xFFFF

/-- R172: a frame's bytes from its length byte to its last payload byte, which the CRC covers. -/
def frameBody (kind tag code : Nat) (payload : List Byte) : List Byte :=
  byteOf payload.length :: byteOf kind :: bytes16 tag ++ byteOf code :: payload

/-- R172: a whole frame on the line: start byte, body, and the CRC, least significant byte first
(DEDUCED, notes/assumptions/20.md; unsafe). -/
def wireFrame (kind tag code : Nat) (payload : List Byte) : List Byte :=
  Config.startByte :: frameBody kind tag code payload ++ bytes16 (crc16 (frameBody kind tag code payload)).toNat

/-- R172: the bytes of a frame the part sends. -/
def frameBytes (f : Frame) : List Byte := wireFrame (frameKindCode f.kind) f.tag f.code f.payload

/-- R173: the frames of a reply: reply parts of 240 bytes, and the rest in a frame of kind reply. -/
def replyParts (tag code : Nat) : Nat → List Byte → List Frame
  | 0, p => [{ kind := .reply, tag := tag, code := code, payload := p }]
  | k + 1, p =>
    if p.length ≤ Config.maxPayload then [{ kind := .reply, tag := tag, code := code, payload := p }]
    else { kind := .replyPart, tag := tag, code := code, payload := p.take Config.maxPayload }
      :: replyParts tag code k (p.drop Config.maxPayload)

/-- R173: the chain of frames a reply goes out as. -/
def replyFrames (r : Reply) : List Frame :=
  replyParts r.tag (statusCode r.status) ((payloadBytes r.body).length / Config.maxPayload) (payloadBytes r.body)

/-- R173: the frame a pending notice goes out as; its tag is the notice sequence number, its payload opens with the
raise count. -/
def noticeFrame (seq : Nat) (n : PendingNotice) : Frame :=
  { kind := .notice, tag := seq, code := noticeCode (noticeKind n.notice),
    payload := payloadBytes (.u8 n.count :: noticeWire n.notice) }

end Sys2Proof.Machine
end

