-- ==== Sys2Proof/Machine/Ops.lean ====
section
/-! DEFINITION. The shared operations: keyed tables, bins, the links' queues and arbiter, the open record, and the
derived outputs of the guard unit and the motion block. -/

namespace Sys2Proof.Machine

/-! ## Tables in ascending order of key (R1, R152) -/

/-- The entry of a key, if there is one. -/
def tabGet {α : Type} (t : List (Nat × α)) (k : Nat) : Option α :=
  match t with
  | [] => none
  | (k', v) :: rest => if k = k' then some v else tabGet rest k

/-- The table with the key's entry made or replaced, in its place by key. -/
def tabPut {α : Type} (t : List (Nat × α)) (k : Nat) (v : α) : List (Nat × α) :=
  match t with
  | [] => [(k, v)]
  | (k', v') :: rest =>
    if k < k' then (k, v) :: (k', v') :: rest
    else if k = k' then (k, v) :: rest
    else (k', v') :: tabPut rest k v

/-- The table without the key's entry. -/
def tabDrop {α : Type} (t : List (Nat × α)) (k : Nat) : List (Nat × α) := t.filter (fun e => decide (e.1 ≠ k))

/-- Keys strictly rising. -/
def tabSorted {α : Type} (t : List (Nat × α)) : Bool :=
  match t with
  | [] => true
  | [_] => true
  | a :: b :: rest => decide (a.1 < b.1) && tabSorted (b :: rest)

/-! ## Bins (R93) -/

/-- R93: the empty bin, which every bin number not listed reads as (R94). -/
def emptyBin : Bin := { value := 0, empty := true, filled := false, suspect := false }

/-- The bin of a channel at a bin number. -/
def binRead (c : Bins) (b : Nat) : Bin := (tabGet c b).getD emptyBin

/-- The channel with one bin replaced, kept in canonical form. -/
def binWrite (c : Bins) (b : Nat) (v : Bin) : Bins := if v = emptyBin then tabDrop c b else tabPut c b v

/-- The canonical form of a channel: bin numbers strictly rising and at most 799, no empty bin listed. -/
def binsWf (c : Bins) : Bool :=
  tabSorted c && c.all (fun e => decide (e.1 < Config.bins) && decide (e.2 ≠ emptyBin))

/-! ## Links -/

/-- A link's state. -/
def State.link (s : State) : Link → LinkState
  | .cell => s.cell
  | .line => s.line

/-- The state with one link changed. -/
def State.onLink (s : State) (l : Link) (f : LinkState → LinkState) : State :=
  match l with
  | .cell => { s with cell := f s.cell }
  | .line => { s with line := f s.line }

/-- R175: a reply joins the reply queue of a link. -/
def State.reply (s : State) (l : Link) (tag : Nat) (status : Status) (body : List Wire) : State :=
  s.onLink l (fun k => { k with replies := k.replies ++ [{ tag := tag, status := status, body := body }] })

/-- R175: a refusal with an empty payload. -/
def State.refuse (s : State) (l : Link) (tag : Nat) (status : Status) : State := s.reply l tag status []

/-- R176: a pending-notice map after a notice of a kind the mask holds is raised. -/
def enterNotice (n : Notice) : List PendingNotice → List PendingNotice
  | [] => [{ notice := n, count := 1 }]
  | p :: rest =>
    if noticeKind p.notice = noticeKind n then { notice := n, count := min 255 (p.count + 1) } :: rest
    else p :: enterNotice n rest

/-- R176: a link takes a raised notice. -/
def raiseOn (n : Notice) (k : LinkState) : LinkState :=
  if noticeKind n ∈ k.mask then { k with notices := enterNotice n k.notices } else k

/-- R176: a notice is raised, and taken by each link. -/
def State.raise (s : State) (n : Notice) : State := { s with cell := raiseOn n s.cell, line := raiseOn n s.line }

/-- R177: the arbiter of a link: a free transmitter begins the oldest reply's chain, else the oldest pending notice. -/
def arbitrate (k : LinkState) : LinkState :=
  match k.tx with
  | _ :: _ => k
  | [] =>
    match k.replies with
    | r :: rest => { k with replies := rest, tx := replyFrames r }
    | [] =>
      match k.notices with
      | n :: rest => { k with notices := rest, tx := [noticeFrame k.seq n], seq := (k.seq + 1) % 2 ^ 16 }
      | [] => k

/-- R177: both arbiters, which act whenever a transmitter is free. They act once, when the command has been taken, so a reply
goes before a notice of its event, and two notices of one kind raised in one event coalesce into one frame even where the
transmitter is idle (DESIGN CHOICE, notes/assumptions/9.md; unsafe). -/
def State.arbiters (s : State) : State := { s with cell := arbitrate s.cell, line := arbitrate s.line }

/-- A command has been taken: the arbiters act, and the part goes on. -/
def done (s : State) : Host.Outcome State Fault Refusal := .next s.arbiters

/-! ## Guards -/

/-- R165: the kinds that count in the open-guard set. -/
def kindCounts (k : GuardKind) : Bool := decide (k ≠ .absent)

/-- The kind of input G1 to G8. -/
def Guards.kind (g : Guards) (i : Nat) : GuardKind := g.kinds.getD (i - 1) .absent

/-- The debounced state of input G1 to G8. -/
def Guards.state (g : Guards) (i : Nat) : Debounced := g.states.getD (i - 1) .closed

/-- R163: the inputs G1 to G8. -/
def guardInputs : List Nat := [1, 2, 3, 4, 5, 6, 7, 8]

/-- R165: the open-guard set, in ascending order. -/
def Guards.openSet (g : Guards) : List Nat :=
  guardInputs.filter (fun i => kindCounts (g.kind i) && decide (g.state i ≠ .closed))

/-- R168: the guard unit holds enable off while an ESTOP input is in the open-guard set. -/
def Guards.estopHold (g : Guards) : Bool := g.openSet.any (fun i => decide (g.kind i = .estop))

/-- R165: the open-guard set. -/
def State.openSet (s : State) : List Nat := s.guards.openSet

/-! ## Motion -/

/-- R67: the position, which the encoder counts from the rest point of the last homing or reset. -/
def Motion.position (m : Motion) : Int := m.enc - m.zero

/-- R67: the drive enable that the stroke state gives. -/
def Motion.enableByState (m : Motion) : Bool :=
  match m.stroke with
  | .unhomed | .faulted => false
  | .homing | .idle | .running | .paused | .retracting => true
  | .stopping => match m.stop with
    | some r => !r.dropped
    | none => true

/-- R67, R168: the enable line to the drive. -/
def State.enable (s : State) : Bool := s.motion.enableByState && !s.guards.estopHold

/-- R69: the encoder has moved by no more than 2 µm over the last 10 ms, so far as the ram samples of that time show
(DEDUCED, notes/assumptions/7.md; unsafe). -/
def Motion.still (m : Motion) : Bool := m.recent.all (fun p => decide ((m.enc - p).natAbs ≤ Config.restTravel))

/-- R68: the speed sent to the drive. -/
def Ramp.output : Ramp → Int
  | .following v => v
  | .falling _ v => v

/-- R69: the ram is at rest. -/
def State.atRest (s : State) : Bool := (decide (s.motion.ramp.output = 0) || !s.enable) && s.motion.still

/-- R69: the encoder's count latched with a ram sample joins those of the last 10 ms. -/
def Motion.remember (m : Motion) : Motion := { m with recent := (m.enc :: m.recent).take Config.restSamples }

/-- R68: a ramp output that falls at a rate from a speed; from zero it has fallen already. -/
def fallingFrom (rate : Nat) (speed : Int) : Ramp := if speed = 0 then .zero else .falling rate speed

/-- R68, R82: the ramp output when the commanded speed has gone to zero; a ramp that falls already keeps the greater rate. -/
def slowRamp (rate : Nat) : Ramp → Ramp
  | .following v => fallingFrom rate v
  | .falling r v => fallingFrom (max r rate) v

/-- R82: the stop rate in force once a stop of a rate has slowed the ramp output. -/
def Ramp.rateOr (rate : Nat) : Ramp → Nat
  | .falling r _ => r
  | .following _ => rate

/-- R68: a speed after one ram sample at a rate, toward a goal that it does not pass. -/
def speedToward (goal : Int) (rate : Nat) (speed : Int) : Int :=
  let change : Int := (rate / Config.rateUnit : Nat)
  if speed < goal then min goal (speed + change) else max goal (speed - change)

/-- R68, R73: the ramp output after one ram sample. It follows the goal at the ordinary rate; falling, it reaches zero at its
stop rate first (DEDUCED, notes/assumptions/6.md; unsafe). -/
def Ramp.next (goal : Int) : Ramp → Ramp
  | .following v => .following (speedToward goal Config.slowRate v)
  | .falling r v => fallingFrom r (speedToward 0 r v)

/-! ## The job and its record -/

/-- R46: the running job's part. -/
def State.run (s : State) : Option Run := s.job.bind (·.run)

/-- R46: the job is RUNNING. -/
def State.jobRunning (s : State) : Bool := s.run.isSome

/-- R46: the job is RUNNING and its program is in progress. -/
def State.inProgress (s : State) : Bool :=
  match s.run with
  | some r => !r.ended
  | none => false

/-- R46: the step in hand. -/
def State.inHand (s : State) : Option InHand := s.run.bind (·.inHand)

/-- The state with the running job's part changed. -/
def State.onRun (s : State) (f : Run → Run) : State :=
  { s with job := s.job.map (fun j => { j with run := j.run.map f }) }

/-- The state with the step in hand changed. -/
def State.onHand (s : State) (f : InHand → InHand) : State := s.onRun (fun r => { r with inHand := r.inHand.map f })

/-- R137: the records with the open record changed. -/
def onOpenRecord (f : Record → Record) (rs : List Record) : List Record :=
  rs.map (fun r => if r.state = .opened then f r else r)

/-- R137: the state with the open record changed. -/
def State.onRecord (s : State) (f : Record → Record) : State :=
  { s with store := { s.store with records := onOpenRecord f s.store.records } }

/-- R137: the record of a press number. -/
def State.record (s : State) (press : Nat) : Option Record := s.store.records.find? (fun r => decide (r.press = press))

/-- The encoder's count is latched: the position follows, and the step in hand adds the change to its travelled distance (R85). -/
def State.latch (s : State) (enc : Int) : State :=
  { s with motion := { s.motion with enc := enc } }.onHand
    (fun h => { h with travelled := h.travelled + (enc - s.motion.enc).natAbs })

end Sys2Proof.Machine
end

