-- ==== Sys2Proof/Machine/Operands.lean ====
section
/-! DEFINITION. What the fields of requests and catalogue entries mean: their ranges, the quantities R19 and R20 derive
from an entry, and the values of coded fields. -/

namespace Sys2Proof.Machine

/-- A number in a range, both ends included. -/
def between (lo hi n : Nat) : Bool := decide (lo ≤ n) && decide (n ≤ hi)

/-- R8, R47: a printable ASCII character. -/
def printable (c : Nat) : Bool := between 32 126 c

/-- The greatest of a list of numbers, 0 for none. -/
def maxOf (l : List Nat) : Nat := l.foldl max 0

/-! ## The pin grid (R11) -/

/-- The cells of a pattern number, none where there is no such pattern. -/
def patternOf (e : TypeEntry) (p : Nat) : List (Option PinCell) := if p = 0 then [] else e.patterns.getD (p - 1) []

/-- R11: the cells of column j, in order of row. -/
def columnCells (e : TypeEntry) (j : Nat) : List (Option PinCell) := patternOf e (e.assign.getD (j - 1) 0)

/-- R11: the pins of column j. -/
def columnPins (e : TypeEntry) (j : Nat) : List PinCell := (columnCells e j).filterMap id

/-- R11: the pins of column j, each with its row. -/
def columnRows (e : TypeEntry) (j : Nat) : List (Nat × PinCell) :=
  (columnCells e j).zipIdx.filterMap (fun (c, i) => c.map (fun p => (i + 1, p)))

/-- The columns 1 to C. -/
def columnsOf (e : TypeEntry) : List Nat := List.range' 1 e.cols

/-- The ranks 1 to K. -/
def ranksOf (e : TypeEntry) : List Nat := List.range' 1 e.ranks

/-- R11: every pin of the grid. -/
def gridPins (e : TypeEntry) : List PinCell := (columnsOf e).flatMap (columnPins e)

/-- R17: the entry's grid names a class. -/
def namesClass (e : TypeEntry) (c : Nat) : Bool := (gridPins e).any (fun p => decide (p.cls = c))

/-- R9: the onset depth of rank r. -/
def onsetOf (e : TypeEntry) (r : Nat) : Nat := e.onsets.getD (r - 1) 0

/-! ## Derived quantities (R19, R20) -/

/-- The engage length of a class. -/
def engageOf (classes : List (Nat × ClassEntry)) (c : Nat) : Nat := ((tabGet classes c).map (·.engage)).getD 0

/-- R19: the rank engage length. -/
def rankEngage (classes : List (Nat × ClassEntry)) (e : TypeEntry) (r : Nat) : Nat :=
  maxOf (((gridPins e).filter (fun p => decide (p.rank = r))).map (fun p => engageOf classes p.cls))

/-- R19: the search start. -/
def searchStart (classes : List (Nat × ClassEntry)) (e : TypeEntry) : Nat :=
  maxOf ((ranksOf e).map (fun r => onsetOf e r + rankEngage classes e r))

/-- R19: the seat band's lower end. -/
def bandLow (e : TypeEntry) : Nat := e.seat - e.tol

/-- R19: the seat band's upper end. -/
def bandHigh (e : TypeEntry) : Nat := e.seat + e.tol

/-- R19: the overtravel depth. -/
def overtravelDepth (e : TypeEntry) : Nat := e.seat + e.tol + Config.overtravelMargin

/-- R19: the knee rise, 50 times the slope threshold. -/
def kneeRise (e : TypeEntry) : Nat := 50 * e.slope

/-- R19: the populated pin count. -/
def pinCount (e : TypeEntry) : Nat := (gridPins e).length

/-- R20: a column's pin count. -/
def columnPinCount (e : TypeEntry) (j : Nat) : Nat := (columnPins e j).length

/-- R20: the ranks present in a column. -/
def ranksPresent (e : TypeEntry) (j : Nat) : List Nat :=
  (ranksOf e).filter (fun r => (columnPins e j).any (fun p => decide (p.rank = r)))

/-- R20: the pins of a rank in a column. -/
def rankPins (e : TypeEntry) (j r : Nat) : List PinCell := (columnPins e j).filter (fun p => decide (p.rank = r))

/-- R20: the rank class of a rank present in a column, 0 where it is not. -/
def rankClass (e : TypeEntry) (j r : Nat) : Nat := ((rankPins e j r).head?.map (·.cls)).getD 0

/-- A field of the classes of a column's pins, summed. -/
def columnSum (classes : List (Nat × ClassEntry)) (e : TypeEntry) (j : Nat) (f : ClassEntry → Nat) : Nat :=
  ((columnPins e j).map (fun p => ((tabGet classes p.cls).map f).getD 0)).sum

/-- R20: a column's finger cap, absent for an empty column. -/
def fingerCap (classes : List (Nat × ClassEntry)) (e : TypeEntry) (j : Nat) : Option Nat :=
  if columnPinCount e j = 0 then none else some (min Config.maxFingerCap (columnSum classes e j (·.abort)))

/-- R20: the lower end of a column's hold window. -/
def holdLow (classes : List (Nat × ClassEntry)) (e : TypeEntry) (j : Nat) : Nat := columnSum classes e j (·.holdMin)

/-- R20: the upper end of a column's hold window. -/
def holdHigh (classes : List (Nat × ClassEntry)) (e : TypeEntry) (j : Nat) : Nat := columnSum classes e j (·.holdMax)

/-- R21: the catalogue copy of a type. -/
def takeCopy (classes : List (Nat × ClassEntry)) (e : TypeEntry) : CatalogueCopy :=
  { entry := e, classes := classes.filter (fun c => namesClass e c.1) }

/-! ## Checks of CLASS PUT (R4) -/

/-- R4: the number of the first of checks 1 to 5 that fails, 0 when all pass. -/
def classCheck (n : Nat) (e : ClassEntry) : Nat :=
  if !between 1 Config.classPlaces n then 1
  else if !(decide (e.entryMin ≤ e.entryMax) && decide (e.entryMax ≤ 20000)) then 2
  else if !(decide (e.holdMin ≤ e.holdMax) && decide (e.holdMax ≤ 20000)) then 3
  else if !(decide (e.entryMax < e.abort) && decide (e.abort ≤ 20000)) then 4
  else if !(between 50 1000 e.engage && decide (e.engage % 5 = 0)) then 5
  else 0

/-! ## Checks of CATALOGUE PUT (R12, R13) -/

/-- R13: the check report: failed check, pattern, column, row, rank. -/
structure CheckReport where
  check : Nat
  pattern : Nat
  column : Nat
  row : Nat
  rank : Nat
  deriving DecidableEq, Repr

/-- R9: rank r's onset depth breaks R9. A list of another length than K breaks it at the first rank missing or over
(DESIGN CHOICE, notes/assumptions/15.md; safe). -/
def onsetBad (e : TypeEntry) (r : Nat) : Bool :=
  if r ≤ e.onsets.length ∧ r ≤ e.ranks then
    !(decide (onsetOf e r % 5 = 0)) || (decide (2 ≤ r) && decide (onsetOf e r < onsetOf e (r - 1) + 100))
  else true

/-- Check 4: the lowest rank whose onset breaks R9. -/
def check4 (e : TypeEntry) : Option Nat :=
  (List.range' 1 (max e.ranks e.onsets.length)).find? (onsetBad e)

/-- Check 7: the lowest column with a pattern number outside 1 to P. -/
def check7Column (e : TypeEntry) : Option Nat :=
  (columnsOf e).find? (fun j => !between 1 e.patterns.length (e.assign.getD (j - 1) 0))

/-- Check 7: the lowest pattern that no column uses. -/
def check7Pattern (e : TypeEntry) : Option Nat :=
  (List.range' 1 e.patterns.length).find? (fun p => !((columnsOf e).any (fun j => decide (e.assign.getD (j - 1) 0 = p))))

/-- Check 8: a cell is bad. -/
def cellBad (classes : List (Nat × ClassEntry)) (e : TypeEntry) (c : Option PinCell) : Bool :=
  match c with
  | none => false
  | some p => !(between 1 e.ranks p.rank) || (tabGet classes p.cls).isNone

/-- Check 8: the first bad cell, by pattern and row. -/
def check8 (classes : List (Nat × ClassEntry)) (e : TypeEntry) : Option (Nat × Nat) :=
  ((List.range' 1 e.patterns.length).flatMap (fun p => (List.range' 1 e.rows).map (fun i => (p, i)))).find?
    (fun (p, i) => cellBad classes e (((patternOf e p).getD (i - 1) none)))

/-- Check 9: a column holds two classes at a rank. -/
def twoClasses (e : TypeEntry) (j r : Nat) : Bool :=
  (rankPins e j r).any (fun p => decide (p.cls ≠ rankClass e j r))

/-- Check 9: the lowest column holding two classes at one rank, with the lowest such rank. -/
def check9 (e : TypeEntry) : Option (Nat × Nat) :=
  ((columnsOf e).flatMap (fun j => (ranksOf e).map (fun r => (j, r)))).find? (fun (j, r) => twoClasses e j r)

/-- Check 10: the lowest rank with no pin. -/
def check10 (e : TypeEntry) : Option Nat :=
  (ranksOf e).find? (fun r => !((gridPins e).any (fun p => decide (p.rank = r))))

/-- Check 11: the lowest rank whose onset and engage length pass the seat band's lower end. -/
def check11 (classes : List (Nat × ClassEntry)) (e : TypeEntry) : Option Nat :=
  (ranksOf e).find? (fun r => decide (onsetOf e r + rankEngage classes e r > e.seat - e.tol))

/-- R12, R13: the report of the first check of CATALOGUE PUT that fails. Where check 7 fails by P above 8 alone, neither a
column nor a pattern is named (DESIGN CHOICE, notes/assumptions/15.md; unsafe). -/
def typeCheck (classes : List (Nat × ClassEntry)) (id : Nat) (e : TypeEntry) : Option CheckReport :=
  if !between 1 9999 id then some ⟨1, 0, 0, 0, 0⟩
  else if !(between 1 16 e.name.length && e.name.all printable) then some ⟨2, 0, 0, 0, 0⟩
  else if !(between 1 48 e.cols && between 1 8 e.rows && between 1 4 e.ranks) then some ⟨3, 0, 0, 0, 0⟩
  else match check4 e with
  | some r => some ⟨4, 0, 0, 0, r⟩
  | none =>
    if !(between 500 3800 e.seat && between 20 300 e.tol && decide (e.seat + e.tol + 50 ≤ 3995)) then
      some ⟨5, 0, 0, 0, 0⟩
    else if !(between 1 200 e.slope && between 20 500 e.touch) then some ⟨6, 0, 0, 0, 0⟩
    else match check7Column e with
    | some j => some ⟨7, 0, j, 0, 0⟩
    | none =>
      match check7Pattern e with
      | some p => some ⟨7, p, 0, 0, 0⟩
      | none =>
        if !between 1 8 e.patterns.length then some ⟨7, 0, 0, 0, 0⟩
        else match check8 classes e with
        | some (p, i) => some ⟨8, p, 0, i, 0⟩
        | none =>
          match check9 e with
          | some (j, r) => some ⟨9, 0, j, 0, r⟩
          | none =>
            match check10 e with
            | some r => some ⟨10, 0, 0, 0, r⟩
            | none =>
              match check11 classes e with
              | some r => some ⟨11, 0, 0, 0, r⟩
              | none => none

/-! ## Step records (R49, R51) -/

/-- R49: every field of a step is within its range. -/
def bodyInRange : StepBody → Bool
  | .move t v => decide (t ≤ 199000) && between 1 1000 v
  | .probe l v a b =>
    decide (l ≤ 199000) && between 1 1000 v && decide (a ≤ b) && decide (b ≤ 199000)
  | .press v c => between 1 500 v && decide (1000 ≤ c)
  | .dwell t => decide (t ≤ 10000)
  | .retract t v => decide (t ≤ 199000) && between 1 1000 v

/-- R49: the normal end of a kind. -/
def normalEnd : StepKind → EndCause
  | .move => .reached
  | .probe => .touched
  | .press => .seated
  | .dwell => .elapsed
  | .retract => .reached

/-- R51: the position after a step of a kind without the last flag, absent where the kind is not accepted. -/
def grammarNext : Grammar → StepKind → Option Grammar
  | .opening, .move => some .opening
  | .opening, .dwell => some .opening
  | .opening, .probe => some .probed
  | .probed, .dwell => some .probed
  | .probed, .press => some .pressed
  | .pressed, .dwell => some .pressed
  | .pressed, .retract => some .pressed
  | _, _ => none

/-- R172: a flag byte, 0 clear and 1 set; another value is out of its field's range
(DESIGN CHOICE, notes/assumptions/16.md; unsafe). -/
def flagOf : Nat → Option Bool
  | 0 => some false
  | 1 => some true
  | _ => none

/-! ## Coded fields -/

/-- R47: the program mode of a code. -/
def modeOf : Nat → Option ProgramMode
  | 0 => some .preloaded
  | 1 => some .streamed
  | _ => none

/-- R153: the level of a code; the inner absence is NONE. -/
def levelOf : Nat → Option (Option Level)
  | 0 => some (some .q1)
  | 1 => some (some .q2)
  | 2 => some (some .qp)
  | 3 => some none
  | _ => none

/-- R160: the outcome of a code. -/
def disposeOf : Nat → Option DisposeOutcome
  | 0 => some .accepted
  | 1 => some .rework
  | 2 => some .scrap
  | _ => none

/-- R170: an entry of GUARD CONFIG; the inner absence is KEEP. -/
def guardEntryOf : Nat → Option (Option GuardKind)
  | 0 => some (some .absent)
  | 1 => some (some .door)
  | 2 => some (some .curtain)
  | 3 => some (some .estop)
  | 4 => some none
  | _ => none

/-- R172: the notice kinds of a set field. -/
def kindsOf (bits : Nat) : List NoticeKind := NoticeKind.all.filter (fun k => bits.testBit (noticeCode k - 1))

/-- R152: the table's key of a type id and a head kind, which is at most 15: in order of type id, then of head kind. -/
def qualKey (typeId headKind : Nat) : Nat := 16 * typeId + headKind

/-! ## The head (R25, R28) -/

/-- R25: the width of a training attempt. -/
def attemptWidth : Nat → Width
  | 1 => .four
  | 2 => .two
  | 3 => .two
  | _ => .one

/-- R25: the lanes of a training attempt. -/
def attemptLanes : Nat → List Nat
  | 1 => [1, 2, 3, 4]
  | 2 => [1, 2]
  | 3 => [3, 4]
  | 4 => [1]
  | 5 => [2]
  | 6 => [3]
  | 7 => [4]
  | _ => []

/-- R26: the first attempt of a width. -/
def firstAttempt : Option Width → Nat
  | some .four => 1
  | some .two => 2
  | some .one => 4
  | none => 1

/-- R28: the sensing speed limit of a width. -/
def speedLimit : Width → Nat
  | .four => 500
  | .two => 250
  | .one => 125

/-- R28: the positions each lane carries at a width. -/
def positionsPerLane (w : Width) : Nat := Config.positions / widthLanes w

/-- R28: the lane in use that carries a position. -/
def laneOf (w : Width) (lanes : List Nat) (position : Nat) : Nat := lanes.getD ((position - 1) / positionsPerLane w) 0

/-- The finger positions 1 to 48. -/
def allPositions : List Nat := List.range' 1 Config.positions

/-- The entry of a finger position. -/
def Head.entry (h : Head) (p : Nat) : PosEntry := if p = 0 then PosEntry.blank else h.table.getD (p - 1) PosEntry.blank

/-- R34: a finger position is ready. -/
def Head.ready (h : Head) (p : Nat) : Bool :=
  let e := h.entry p
  decide (h.status = .ready) && decide (e.status = .present) && !e.failed && e.tared && !e.overtemp && !e.drift

/-- R48: the finger position of column j of C. -/
def mapColumn (o : Orientation) (first cols j : Nat) : Nat :=
  match o with
  | .normal => first + j - 1
  | .reversed => first + cols - j

/-- R48: the column map, one finger position per column. -/
def columnMap (o : Orientation) (first cols : Nat) : List Nat := (List.range' 1 cols).map (mapColumn o first cols)

end Sys2Proof.Machine
end

