-- ==== Sys2Proof/Machine/Catalogue.lean ====
section
/-! DEFINITION. The catalogue: CLASS PUT, CLASS DROP, CLASS GET, CATALOGUE PUT, CATALOGUE DROP, CATALOGUE GET (chapter 1). -/

namespace Sys2Proof.Machine

/-- R17: the connector type the existing job references. -/
def State.jobType (s : State) : Option Nat := s.job.map (·.typeId)

/-- R17: the existing job references a class. -/
def State.jobNames (s : State) (c : Nat) : Bool :=
  match s.jobType with
  | none => false
  | some t => match tabGet s.cat.types t with
    | some e => namesClass e c
    | none => false

/-- The stored types that name a class, in ascending order of id. -/
def Catalogue.users (cat : Catalogue) (c : Nat) : List Nat :=
  (cat.types.filter (fun t => namesClass t.2 c)).map (·.1)

/-- R5: the first stored type naming a class that fails check 11 with the class's new entry in place. -/
def check6 (cat : Catalogue) (n : Nat) (e : ClassEntry) : Option Nat :=
  (cat.types.find? (fun t => namesClass t.2 n && (check11 (tabPut cat.classes n e) t.2).isSome)).map (·.1)

/-- R4, R5: CLASS PUT. The number of the failed check takes one byte (DESIGN CHOICE, notes/assumptions/14.md; unsafe). -/
def serveClassPut (l : Link) (tag n : Nat) (e : ClassEntry) (s : State) : State :=
  let check := classCheck n e
  if check ≠ 0 then s.reply l tag .badField [.u8 check, .u16 0]
  else if s.jobNames n then s.refuse l tag .inUse
  else match check6 s.cat n e with
    | some t => s.reply l tag .badField [.u8 6, .u16 t]
    | none =>
      { s with cat := { s.cat with classes := tabPut s.cat.classes n e } }.reply l tag .ok
        [.u8 (s.cat.users n).length]

/-- R6: CLASS DROP. -/
def serveClassDrop (l : Link) (tag n : Nat) (s : State) : State :=
  if !between 1 Config.classPlaces n then s.refuse l tag .badField
  else match tabGet s.cat.classes n with
    | none => s.refuse l tag .notFound
    | some _ => match s.cat.users n with
      | t :: _ => s.reply l tag .inUse [.u16 t]
      | [] => { s with cat := { s.cat with classes := tabDrop s.cat.classes n } }.reply l tag .ok []

/-- R3: the fields of a class entry. -/
def classWire (n : Nat) (e : ClassEntry) : List Wire :=
  [.u8 n, .u16 e.entryMin, .u16 e.entryMax, .u16 e.holdMin, .u16 e.holdMax, .u16 e.abort, .u32 e.engage]

/-- R7: the class directory. -/
def classDirectory (cat : Catalogue) : List Wire :=
  .u8 cat.classes.length :: cat.classes.flatMap (fun c => [.u8 c.1, .u8 (cat.users c.1).length])

/-- R7: CLASS GET. -/
def serveClassGet (l : Link) (tag n : Nat) (s : State) : State :=
  if n = 0 then s.reply l tag .ok (classDirectory s.cat)
  else if Config.classPlaces < n then s.refuse l tag .badField
  else match tabGet s.cat.classes n with
    | none => s.refuse l tag .notFound
    | some e => s.reply l tag .ok (classWire n e ++ [.u8 (s.cat.users n).length, .flag (s.jobNames n)])

/-- R13: the check report of CATALOGUE PUT. Check number, pattern, column and row take one byte each
(DESIGN CHOICE, notes/assumptions/14.md; unsafe). -/
def reportWire (r : CheckReport) : List Wire := [.u8 r.check, .u8 r.pattern, .u8 r.column, .u8 r.row, .u8 r.rank]

/-- R12 to R14: CATALOGUE PUT. -/
def serveCataloguePut (l : Link) (tag id : Nat) (e : TypeEntry) (s : State) : State :=
  match typeCheck s.cat.classes id e with
  | some r => s.reply l tag .badField (reportWire r)
  | none =>
    if s.jobType = some id then s.refuse l tag .inUse
    else if (tabGet s.cat.types id).isNone ∧ Config.typeCapacity ≤ s.cat.types.length then s.refuse l tag .full
    else
      let types := tabPut s.cat.types id e
      { s with cat := { s.cat with types := types } }.reply l tag .ok [.u8 types.length]

/-- The qualification entries keyed by a type id. -/
def qualsOf (t : List (Nat × QualEntry)) (id : Nat) : List (Nat × QualEntry) :=
  t.filter (fun q => decide (q.1 / 16 = id))

/-- R15: CATALOGUE DROP. -/
def serveCatalogueDrop (l : Link) (tag id : Nat) (s : State) : State :=
  if !between 1 9999 id then s.refuse l tag .badField
  else match tabGet s.cat.types id with
    | none => s.refuse l tag .notFound
    | some _ =>
      if s.jobType = some id then s.refuse l tag .inUse
      else
        { s with
          cat := { s.cat with types := tabDrop s.cat.types id }
          qual := { s.qual with table := s.qual.table.filter (fun q => decide (q.1 / 16 ≠ id)) } }.reply
            l tag .ok [.u8 (qualsOf s.qual.table id).length]

/-- R8 to R11: the fields of a connector type entry, the grid as received, with the widths and counts of `bytesType`
(DESIGN CHOICE, notes/assumptions/14.md and 15.md; unsafe). -/
def typeWire (id : Nat) (e : TypeEntry) : List Wire :=
  [.u16 id, .text e.name, .u8 e.cols, .u8 e.rows, .u8 e.ranks] ++ e.onsets.map .u32
    ++ [.u32 e.seat, .u32 e.tol, .u16 e.slope, .u16 e.touch, .u8 e.patterns.length]
    ++ e.patterns.flatMap (fun p => p.map (fun c => .u8 (cellCode c))) ++ e.assign.map .u8

/-- R16: the type directory. -/
def typeDirectory (s : State) : List Wire :=
  .u8 s.cat.types.length :: s.cat.types.map (fun t => .u16 t.1) ++ [.u16 (s.jobType.getD 0)]

/-- R16: CATALOGUE GET. -/
def serveCatalogueGet (l : Link) (tag id : Nat) (s : State) : State :=
  if id = 0 then s.reply l tag .ok (typeDirectory s)
  else if 9999 < id then s.refuse l tag .badField
  else match tabGet s.cat.types id with
    | none => s.refuse l tag .notFound
    | some e => s.reply l tag .ok (typeWire id e
        ++ [.u16 (pinCount e), .u32 (searchStart s.cat.classes e), .u32 (bandLow e), .u32 (bandHigh e),
            .u32 (overtravelDepth e), .flag (decide (s.jobType = some id))])

end Sys2Proof.Machine
end

