-- ==== Sys2Proof/Machine/Profile.lean ====
section
/-! DEFINITION. The profile unit: binning, the completion of ram bins, the end treatment, and PROFILE READ (chapter 5). -/

namespace Sys2Proof.Machine

/-- R96: the bin of a depth, absent for a depth outside 0 to 3,999. -/
def binOfDepth (d : Int) : Option Nat :=
  if 0 ≤ d ∧ d < (Config.bins * Config.binDepth : Nat) then some (d.toNat / Config.binDepth) else none

/-- R97: a bin after a sample. -/
def binSample (b : Bin) (value : Nat) (suspect : Bool) : Bin :=
  { value := max b.value value, empty := false, filled := false, suspect := b.suspect || suspect }

/-- A channel of the buffer. -/
def Profile.channel (p : Profile) (ch : Nat) : Bins := p.channels.getD ch []

/-- The buffer with one channel changed. -/
def Profile.onChannel (p : Profile) (ch : Nat) (f : Bins → Bins) : Profile :=
  { p with channels := p.channels.modify ch f }

/-- R98: the deepest bin reached after a sample in a bin. -/
def deepen (d : Option Nat) (b : Nat) : Option Nat := some (max (d.getD 0) b)

/-- R96, R97, R98: a sample enters the bin of its depth in a channel; outside the span it is not binned. -/
def Profile.bin (p : Profile) (ch : Nat) (position : Int) (value : Nat) (suspect : Bool) : Profile :=
  match p.touch with
  | none => p
  | some t =>
    match binOfDepth (position - t) with
    | none => p
    | some b =>
      { p.onChannel ch (fun c => binWrite c b (binSample (binRead c b) value suspect)) with
        deepest := deepen p.deepest b }

/-- R100: bin `from` + 1 and the `n` − 1 after it take the value of the leading bin; a gap of three or more is suspect. -/
def fillGap (value first n : Nat) (c : Bins) : Bins :=
  (List.range n).foldl
    (fun c i => binWrite c (first + i)
      { value := value, empty := false, filled := true, suspect := (binRead c (first + i)).suspect || decide (3 ≤ n) }) c

/-- R100: the completion report of a ram bin, as it now stands. -/
def Profile.completion (p : Profile) (b : Nat) : Completion :=
  { bin := b, value := (binRead (p.channel 0) b).value, suspect := (binRead (p.channel 0) b).suspect }

/-- R100: a ram sample is binned. The answer's second part holds the reports of the bins it completes, in ascending order. -/
def Profile.binRam (p : Profile) (position : Int) (value : Nat) (suspect : Bool) : Profile × List Completion :=
  match p.touch with
  | none => (p, [])
  | some t =>
    match binOfDepth (position - t) with
    | none => (p, [])
    | some b =>
      match p.leading with
      | none => ({ p.bin 0 position value suspect with leading := some b }, [])
      | some l =>
        if l < b then
          let p := p.onChannel 0 (fillGap (binRead (p.channel 0) l).value (l + 1) (b - l - 1))
          let p := { p.bin 0 position value suspect with leading := some b }
          (p, (List.range' l (b - l)).map p.completion)
        else (p.bin 0 position value suspect, [])

/-! ## The end treatment (R101) -/

/-- How many bins at the front are empty. -/
def leadingEmpty : List Bin → Nat
  | [] => 0
  | b :: rest => if b.empty then leadingEmpty rest + 1 else 0

/-- R101: the bins 0 to D of a channel treated in order; `run` counts the empty bins of the present run already
passed, `last` is the value of the nearest lower bin. -/
def treatBins (run last : Nat) : List Bin → List Bin
  | [] => []
  | b :: rest =>
    if b.empty then
      { value := last, empty := false, filled := true,
        suspect := b.suspect || decide (2 < run + 1 + leadingEmpty rest) } :: treatBins (run + 1) last rest
    else b :: treatBins 0 b.value rest

/-- R101, step 2: bin 0, when it was empty, is suspect too where the base is. -/
def markFirst (wasEmpty baseSuspect : Bool) : List Bin → List Bin
  | [] => []
  | b :: rest => { b with suspect := b.suspect || (wasEmpty && baseSuspect) } :: rest

/-- R101: a channel after the end treatment, with its base value and its mark, down to the deepest bin. -/
def treatChannel (base : FingerSample) (deepest : Nat) (c : Bins) : Bins :=
  let bs := (List.range (deepest + 1)).map (binRead c)
  (List.range (deepest + 1)).zip (markFirst (binRead c 0).empty base.suspect (treatBins 0 base.value bs))
    ++ c.filter (fun e => decide (deepest < e.1))

/-- R101: the base value of a channel: the touch base of a column, the touch ram force of the ram channel. -/
def Profile.base (p : Profile) (ch : Nat) : FingerSample :=
  if ch = 0 then { value := p.touchForce.getD 0, suspect := false }
  else (p.bases.getD []).getD (ch - 1) { value := 0, suspect := true }

/-- R101, R102: the program ends: binning stops, the end treatment is applied, the profile is complete. -/
def Profile.close (p : Profile) : Profile :=
  let p := { p with binning := false, complete := true }
  match p.deepest with
  | none => p
  | some d => { p with channels := p.channels.zipIdx.map (fun (c, ch) => treatChannel (p.base ch) d c) }

/-- R94: the buffer and profile state cleared for a new press. -/
def Profile.start (p : Profile) (press typeId : Nat) (cols : Nat) (map : List Nat) : Profile :=
  { p with
    press := some press, complete := false, typeId := some typeId, cols := some cols, map := map, touch := none,
    touchForce := none, bases := none, binning := false, deepest := none, pressEnd := none, leading := none,
    channels := List.replicate (cols + 1) [] }

/-! ## PROFILE READ (R103, R104) -/

/-- R104: one bin entry. -/
def binWire (b : Bin) : List Wire := [.u16 b.value, .flag b.empty, .flag b.filled, .flag b.suspect]

/-- R104: an optional sample: its value and its suspect mark. -/
def sampleWire (x : Option FingerSample) : List Wire :=
  [.flag x.isSome, .u16 ((x.map (·.value)).getD 0), .flag ((x.map (·.suspect)).getD false)]

/-- R104: the channel fields. -/
def channelWire (p : Profile) (ch : Nat) : List Wire :=
  if ch = 0 then opt16 p.touchForce
  else .u8 (p.map.getD (ch - 1) 0) :: sampleWire (p.bases.bind (fun bs => bs[ch - 1]?))

/-- R104: the reply to a PROFILE READ. -/
def profileWire (p : Profile) (ch first count : Nat) : List Wire :=
  [.u16 (p.press.getD 0), .u16 (p.typeId.getD 0), .u8 (p.cols.getD 0)] ++ optPos p.touch ++ opt16 p.deepest
    ++ opt16 p.pressEnd ++ channelWire p ch ++ .u8 count
    :: (List.range' first count).flatMap (fun b => binWire (binRead (p.channel ch) b))

/-- R103, R104: PROFILE READ. -/
def serveProfileRead (l : Link) (tag ch first count : Nat) (s : State) : State :=
  if s.jobRunning then s.refuse l tag .busy
  else if !s.profile.complete then s.refuse l tag .notFound
  else if !(decide (ch ≤ s.profile.cols.getD 0) && between 1 100 count && decide (first + count ≤ 800)) then
    s.refuse l tag .badField
  else s.reply l tag .ok (profileWire s.profile ch first count)

end Sys2Proof.Machine
end

