-- ==== Sys2Proof/Machine/Program.lean ====
section
/-! DEFINITION. How a program runs and ends: the hand-over, the end of a step, the end of a program, stops and their
follow-ons, drive faults, and what a guard or a loss of sensing ends (chapters 3, 4, 6 and 10). -/

namespace Sys2Proof.Machine

/-! ## Hand-over (R57, R73) -/

/-- R73: the speed a step runs with; absent for DWELL. -/
def speedUsed (w : Option Width) : StepBody → Option Nat
  | .move _ v => some v
  | .retract _ v => some v
  | .probe _ v _ _ => some (min v Config.probeSpeed)
  | .press v _ => some (match w with
    | some w => min v (speedLimit w)
    | none => v)
  | .dwell _ => none

/-- R73: the clamped flag of a step; absent for DWELL. -/
def clampedFlag (w : Option Width) : StepBody → Option Bool
  | .move .. => some false
  | .retract .. => some false
  | .probe _ v _ _ => some (decide (Config.probeSpeed < v))
  | .press v _ => some (match w with
    | some w => decide (speedLimit w < v)
    | none => false)
  | .dwell _ => none

/-- R74, R75, R77: the step's end is given at the hand-over at this start position. -/
def endsAtHandOver (start : Int) : StepBody → Bool
  | .move t _ => decide (((t : Int) - start).natAbs ≤ Config.arrival)
  | .retract t _ => decide (start ≤ (t : Int))
  | .probe l _ _ _ => decide ((l : Int) ≤ start + Config.arrival)
  | .press .. => false
  | .dwell t => decide (t = 0)

/-- R74 to R77: the speed a step commands from its start position. -/
def commandOf (w : Option Width) (start : Int) (b : StepBody) : Int :=
  if endsAtHandOver start b then 0
  else
    let v : Int := ((speedUsed w b).getD 0 : Nat)
    match b with
    | .move t _ => if start < (t : Int) then v else -v
    | .retract .. => -v
    | .probe .. => v
    | .press .. => v
    | .dwell _ => 0

/-- R73: a step as it is taken in hand. -/
def takeInHand (w : Option Width) (start : Int) (index : Nat) (rec : StepRecord) : InHand :=
  { record := rec, index := index, start := start, speedUsed := speedUsed w rec.body,
    clamped := clampedFlag w rec.body, travelled := 0, peak := 0, endsNow := endsAtHandOver start rec.body }

/-- R107, R108: the monitor at the hand-over of a step. -/
def Monitor.handOver (m : Monitor) : StepBody → Monitor
  | .press _ cap => { m with phase := .pressing, ramCap := some (min cap Config.maxRamCap) }
  | _ => m

/-- R57, R73: the oldest queued step is handed to the motion block; nothing where the queue is empty. The ramp output goes on
as it is: where it falls still, the step's motion waits for it to reach zero (`Ramp.next`). -/
def handOver (s : State) : State :=
  match s.job with
  | none => s
  | some j =>
    match j.run, j.queue with
    | some r, rec :: rest =>
      let start := s.motion.position
      let command := commandOf s.head.width start rec.body
      { s with
        job := some { j with
          queue := rest,
          run := some { r with handed := r.handed + 1, inHand := some (takeInHand s.head.width start r.handed rec) } }
        motion := { s.motion with
          stroke := .running, commanded := command }
        monitor := s.monitor.handOver rec.body }
    | _, _ => s

/-! ## The end of a program (R64) -/

/-- R107: the monitor when a program ends before a PRESS step was handed over. -/
def Monitor.programEnds (m : Monitor) : Monitor := if m.phase = .watching then { m with phase := .settled } else m

/-- R64, R95, R101, R107: the program ends with a cause. -/
def endProgram (c : EndCause) (s : State) : State :=
  { s with
    job := s.job.map (fun j => { j with
      queue := [], run := j.run.map (fun r => { r with ended := true, underrun := false }) })
    store := { s.store with records := onOpenRecord (fun r => { r with cause := some c }) s.store.records }
    profile := s.profile.close
    monitor := s.monitor.programEnds }

/-- R65: the motion block makes the rest report of a program that has ended. -/
def markRest (s : State) : State := s.onRun (fun r => { r with restMade := r.restMade || r.ended })

/-! ## Stops (R82, R83, R84) -/

/-- R83: the follow-on of an abort cause. -/
def followOf : EndCause → FollowOn
  | .guard => .idle
  | .stall => .idle
  | .travelLimit => .idle
  | _ => .retract

/-- R82: a stop begins. A ramp already falling keeps the greater rate, but in an enable-drop stop, which makes the ramp output
zero. -/
def beginStop (cause : StopCause) (rate : Nat) (drop : Bool) (follow : FollowOn) (s : State) : State :=
  let ramp := slowRamp rate s.motion.ramp
  { s with motion := { s.motion with
    stroke := .stopping, commanded := 0, ramp := if drop then .zero else ramp, phase := .none
    stop := some {
      cause := cause, dropped := drop, follow := follow,
      rate := if drop then rate else ramp.rateOr rate } } }

/-- R71, R83, R84: the ram is at rest and the follow-on of the stop record is taken; the guards are read now. -/
def takeFollowOn (s : State) : State :=
  match s.motion.stop with
  | none => s
  | some r =>
    match r.follow with
    | .unhomed => { s with motion := { s.motion with stroke := .unhomed, referenced := false, stop := none } }
    | .idle => markRest { s with motion := { s.motion with stroke := .idle, stop := none } }
    | .retract =>
      if s.openSet = [] ∧ s.motion.position ≠ 0 then
        { s with motion := { s.motion with
          stroke := .retracting, stop := none, commanded := -Config.retractSpeed } }
      else markRest { s with motion := { s.motion with stroke := .idle, stop := none } }

/-! ## The end of a step (R57, R58, R61, R85) -/

/-- R85: the outcome of the step in hand. -/
def outcomeOf (h : InHand) (c : EndCause) (stop : Int) : StepOutcome :=
  { index := h.index, kind := bodyKind h.record.body, cause := c, start := h.start, stop := stop,
    travelled := h.travelled, peak := h.peak, speedUsed := h.speedUsed, clamped := h.clamped }

/-- R76, R82: the stop rate that ends or aborts a step of a kind. -/
def stopRate (k : StepKind) : Nat := if k = .press then Config.fastRate else Config.slowRate

/-- R98, R107: the PRESS step has ended: the press-end bin is fixed and the monitor is SETTLED. -/
def pressEnded (s : State) : State :=
  { s with
    profile := { s.profile with pressEnd := s.profile.deepest }
    monitor := { s.monitor with phase := .settled } }

/-- R58, R59: the program goes on after a normal end of a step, with its last flag. -/
def continueProgram (last : Bool) (s : State) : State :=
  match s.job with
  | none => s
  | some j =>
    if last then
      let s := endProgram (if j.pressAccepted then .completed else .noPress) s
      markRest { s with motion := { s.motion with stroke := .idle } }
    else
      match j.run, j.queue with
      | some r, [] =>
        ({ s with motion := { s.motion with stroke := .paused } }.onRun (fun r => { r with underrun := true })).raise
          (.queueLow r.press r.handed (Config.maxSteps - j.count))
      | _, _ => handOver s

/-- R57, R85: the outcome of the step in hand is written, STEP_DONE is raised, and no step is in hand. -/
def closeStep (r : Run) (h : InHand) (c : EndCause) (stop : Int) (s : State) : State :=
  let s := (s.onRecord (fun rec => { rec with outcomes := rec.outcomes ++ [outcomeOf h c stop] })).onRun
    (fun r => { r with inHand := none })
  let s := s.raise (.stepDone r.press h.index (bodyKind h.record.body) c stop)
  if bodyKind h.record.body = .press then pressEnded s else s

/-- R57, R58, R61, R73, R82: the step in hand ends with its first end cause. Nothing where no step is in hand. `drop`
says that an abort is an enable-drop stop. -/
def endStep (c : EndCause) (stop : Int) (drop : Bool) (s : State) : State :=
  match s.run, s.inHand with
  | some r, some h =>
    let k := bodyKind h.record.body
    let s := closeStep r h c stop s
    if c = normalEnd k then
      continueProgram h.record.last
        { s with motion := { s.motion with commanded := 0, ramp := slowRamp (stopRate k) s.motion.ramp } }
    else
      let s := endProgram c s
      if c = .driveFault then markRest s
      else beginStop (.cause c) (stopRate k) drop (followOf c) s
  | _, _ => s

/-- R59, R61, R82: a PAUSED program ends with an abort cause. When the ram is already at rest (R69), the follow-on is taken
in the same event. -/
def endPaused (c : EndCause) (drop : Bool) (s : State) : State :=
  let atRest := s.atRest
  let s := endProgram c s
  if c = .driveFault then markRest s
  else
    let s := beginStop (.cause c) Config.slowRate drop (followOf c) s
    if atRest then takeFollowOn s else s

/-- R59, R61: an abort cause reaches the program: it ends the step in hand at the present position, or the paused
program, or nothing. -/
def interrupt (c : EndCause) (drop : Bool) (s : State) : State :=
  if s.inHand.isSome then endStep c s.motion.position drop s
  else if s.motion.stroke = .paused then endPaused c drop s
  else s

/-! ## Homing ended early (R71), drive faults (R80), guards (R167), loss of sensing (R111) -/

/-- R71: a homing is ended early with a result. -/
def endHoming (r : HomingResult) (drop : Bool) (s : State) : State :=
  beginStop (.homing r) Config.slowRate drop .unhomed { s with motion := { s.motion with homing := r } }

/-- R80: a drive fault is taken, in any stroke state but FAULTED. -/
def driveFault (src : FaultSource) (s : State) : State :=
  let left := s.motion.stroke
  if left = Stroke.faulted then s
  else
    let s := { s with motion := { s.motion with
      stroke := .faulted, commanded := 0, ramp := .zero, referenced := false, stop := none, phase := .none
      homing := if left = Stroke.homing then .driveFault else s.motion.homing } }
    let s := s.raise (.ramFault src left)
    if s.inHand.isSome then endStep .driveFault s.motion.position false s
    else if left = Stroke.paused then endPaused .driveFault false s
    else markRest s

/-- R82, R167: an ESTOP input turns a stop in progress into an enable-drop stop. -/
def dropStop (s : State) : State :=
  { s with motion := { s.motion with
    ramp := .zero, stop := s.motion.stop.map (fun r => { r with dropped := true }) } }

/-- R167: an input of a kind has entered the open-guard set: what it ends depends on the stroke state. -/
def guardEntry (k : GuardKind) (s : State) : State :=
  let drop := decide (k = .estop)
  match s.motion.stroke with
  | .unhomed => s
  | .homing => endHoming .guard drop s
  | .idle => s
  | .running => interrupt .guard drop s
  | .paused => interrupt .guard drop s
  | .stopping => if drop then dropStop s else s
  | .retracting => beginStop (.cause .guard) Config.slowRate drop .idle s
  | .faulted => s

/-- R111, R112: sensing is lost: the program ends SENSING_LOST while the monitor is WATCHING or PRESSING. -/
def sensingLost (s : State) : State :=
  match s.monitor.phase with
  | .watching => interrupt .sensingLost false s
  | .pressing => interrupt .sensingLost false s
  | .settled => s
  | .inactive => s

/-- R88, R111: the head has left READY: the columns of a RUNNING job take no further samples, and sensing is lost. -/
def leaveReady (s : State) : State := sensingLost (s.onRun (fun r => { r with fingersGone := true }))

end Sys2Proof.Machine
end

