-- ==== Sys2Proof/Machine/Guards.lean ====
section
/-! DEFINITION. The guard unit: changes of the debounced states, the open-guard set and its notices, and GUARD CONFIG
(chapter 10). The set itself, the ESTOP hold and what an entry ends stand in Ops.lean and Program.lean. -/

namespace Sys2Proof.Machine

/-- The guard unit with one input's debounced state set. -/
def Guards.setState (g : Guards) (i : Nat) (d : Debounced) : Guards := { g with states := g.states.set (i - 1) d }

/-- R166: the time in ms since the set last became non-empty, 0 when it has been so since a reset. -/
def Guards.openTime (g : Guards) : Nat :=
  if g.firstOpened = some .reset then 0 else g.openTicks / Config.ticksPerMs

/-- R165, R166: the set has become non-empty by an input's entry. -/
def guardOpened (i : Nat) (s : State) : State :=
  { s with guards := { s.guards with firstOpened := some (.input i), openTicks := 0 } }.raise
    (.guardOpen i (s.guards.kind i) s.openSet)

/-- R165, R166: the set has become empty by the leaving of an input of a kind. -/
def guardClosed (i : Nat) (k : GuardKind) (s : State) : State :=
  { s with guards := { s.guards with firstOpened := none, lastClosed := some i } }.raise
    (.guardClosed i k s.guards.openTime)

/-- R163, R165 to R167: the debounced state of an input has changed. An entry's effect on the motion comes before
GUARD_OPEN (DESIGN CHOICE, notes/assumptions/10.md; unsafe). -/
def takeGuardChange (i : Nat) (d : Debounced) (s : State) : State :=
  let before := s.openSet
  let s := { s with guards := s.guards.setState i d }
  if i ∈ s.openSet ∧ i ∉ before then
    let s := guardEntry (s.guards.kind i) s
    if before = [] then guardOpened i s else s
  else if before ≠ [] ∧ s.openSet = [] then guardClosed i (s.guards.kind i) s
  else s

/-- GUARD_INPUT_CHANGE (R163): the level of G1 to G8 has held a new value for 20 ms. -/
def execGuardInputChange (input : Nat) (nowOpen : Bool) (s : State) (enc : Int := 0) : Host.Outcome State Fault Refusal :=
  let s := s.latch enc
  if between 1 8 input then done (takeGuardChange input (if nowOpen then .opened else .closed) s) else done s

/-! ## GUARD CONFIG (R170, R171) -/

/-- R170: the kinds of the inputs after entries that are kinds or KEEP. -/
def configKinds (kinds : List GuardKind) (entries : List (Option GuardKind)) : List GuardKind :=
  kinds.zipWith (fun k e => e.getD k) entries

/-- R163, R165, R170: the reply of GUARD CONFIG. The eight pairs of kind and state carry no count, and the input
last closed takes one byte (DESIGN CHOICE, notes/assumptions/14.md; unsafe). -/
def guardWire (g : Guards) : List Wire :=
  guardInputs.flatMap (fun i => [.u8 (guardKindCode (g.kind i)), .u8 (debouncedCode (g.state i))])
    ++ .set g.openSet :: opt8 (g.firstOpened.map markCode) ++ opt8 g.lastClosed

/-- R171: the open-guard set is brought into line with new kinds. GUARD_CLOSED carries the kind with which the input
counted in the set (DESIGN CHOICE, notes/assumptions/31.md; unsafe). -/
def takeGuardConfig (entries : List (Option GuardKind)) (s : State) : State :=
  let before := s.guards
  let s := { s with guards := { s.guards with kinds := configKinds s.guards.kinds entries } }
  if before.openSet = [] then
    match s.openSet with
    | i :: _ => guardOpened i s
    | [] => s
  else if s.openSet = [] then
    match before.openSet.getLast? with
    | some i => guardClosed i (before.kind i) s
    | none => s
  else s

/-- R170: GUARD CONFIG. -/
def serveGuardConfig (l : Link) (tag : Nat) (codes : List Nat) (s : State) : State :=
  let entries := (codes.map guardEntryOf).filterMap id
  if entries.length ≠ codes.length ∨ codes.length ≠ 8 then s.refuse l tag .badField
  else if entries.all Option.isNone then s.reply l tag .ok (guardWire s.guards)
  else if (s.motion.stroke = .unhomed ∨ s.motion.stroke = .idle ∨ s.motion.stroke = .faulted) ∧ ¬ s.jobRunning then
    let s := takeGuardConfig entries s
    s.reply l tag .ok (guardWire s.guards)
  else s.refuse l tag .busy

end Sys2Proof.Machine
end

