-- ==== Sys2Proof/Machine/Qualification.lean ====
section
/-! DEFINITION. The qualification unit: the table, the audit decision at START, the hold, its timer and the disposition
(chapter 9). -/

namespace Sys2Proof.Machine

/-! ## The table (R152 to R154) -/

/-- R153: the result codes of QUALIFY, in the order R153 lists them: created, replaced, removed, no entry. -/
def qualifyReply (l : Link) (tag result : Nat) (s : State) : State :=
  s.reply l tag .ok [.u8 result, .u8 s.qual.table.length]

/-- The state with the qualification table changed. -/
def State.onQuals (s : State) (f : List (Nat × QualEntry) → List (Nat × QualEntry)) : State :=
  { s with qual := { s.qual with table := f s.qual.table } }

/-- R153: QUALIFY past check 2, with the level given. -/
def qualifyAs (l : Link) (tag key interval : Nat) (level : Option Level) (s : State) : State :=
  match level, tabGet s.qual.table key with
  | none, some _ => qualifyReply l tag 2 (s.onQuals (fun t => tabDrop t key))
  | none, none => qualifyReply l tag 3 s
  | some v, some _ => qualifyReply l tag 1 (s.onQuals (fun t => tabPut t key { level := v, interval := interval, count := 0 }))
  | some v, none =>
    if s.qual.table.length < Config.qualCapacity then
      qualifyReply l tag 0 (s.onQuals (fun t => tabPut t key { level := v, interval := interval, count := 0 }))
    else s.refuse l tag .full

/-- R153: QUALIFY. -/
def serveQualify (l : Link) (tag typeId headKind level interval : Nat) (s : State) : State :=
  match levelOf level with
  | none => s.refuse l tag .badField
  | some v =>
    if !(between 1 9999 typeId && between 1 15 headKind && (v.isNone || between 1 99 interval)) then
      s.refuse l tag .badField
    else if (tabGet s.cat.types typeId).isNone then s.refuse l tag .notFound
    else qualifyAs l tag (qualKey typeId headKind) interval v s

/-- R154: the fields of an entry. The audit interval takes one byte (DESIGN CHOICE, notes/assumptions/14.md; unsafe). -/
def qualWire (q : QualEntry) : List Wire := [.u8 (levelCode q.level), .u8 q.interval, .u8 q.count]

/-- R154: the table directory. The head kind takes one byte (DESIGN CHOICE, notes/assumptions/14.md; unsafe). -/
def qualDirectory (t : List (Nat × QualEntry)) : List Wire :=
  .u8 t.length :: t.flatMap (fun e => .u16 (e.1 / 16) :: .u8 (e.1 % 16) :: qualWire e.2)

/-- R154: QUALIFY GET. -/
def serveQualifyGet (l : Link) (tag typeId headKind : Nat) (s : State) : State :=
  if typeId = 0 then s.reply l tag .ok (qualDirectory s.qual.table)
  else if !(decide (typeId ≤ 9999) && between 1 15 headKind) then s.refuse l tag .badField
  else match tabGet s.qual.table (qualKey typeId headKind) with
    | none => s.refuse l tag .notFound
    | some q => s.reply l tag .ok (qualWire q)

/-! ## The snapshot at START (R155) -/

/-- R155: the entry after START, and the audit flag of the press. -/
def audit (q : QualEntry) : QualEntry × Bool :=
  if q.level = .q2 then
    if q.count + 1 = q.interval then ({ q with count := 0 }, true) else ({ q with count := q.count + 1 }, false)
  else (q, false)

/-! ## The hold (R157, R158) -/

/-- R157: the grounds on which a judged record is held. -/
def heldBy (r : Record) : Bool := decide (r.level = .qp) || r.audit || decide (r.verdict ≠ some .accept)

/-- R157: the hold state as a press is held. The time remaining is kept in ram samples. -/
def Qualification.hold (q : Qualification) (press : Nat) : Qualification :=
  { q with
    held := some press, timer := .running, remaining := some (q.holdTime * Config.ticksPerSecond), overdue := false,
    startedWith := some q.holdTime }

/-- R158, R160: the hold state with no record held. -/
def Qualification.free (q : Qualification) : Qualification :=
  { q with held := none, timer := .stopped, remaining := none, overdue := false, startedWith := none }

/-- R158: the timer expires while the record of a press is held. -/
def expireHold (r : Record) (s : State) : State :=
  let was := s.qual.overdue
  let s := { s with qual := { s.qual with timer := .expired, remaining := none, overdue := true } }
  if was then s
  else s.raise (.holdOverdue r.press (r.verdict.getD .accept) r.audit (s.qual.startedWith.getD 0))

/-- HOLD_OVERDUE (R158): the hold-overdue timer expires; taken while it runs for a record that is held. -/
def execHoldOverdue (s : State) : Host.Outcome State Fault Refusal :=
  match s.qual.timer, s.qual.held.bind s.record with
  | .running, some r => done (expireHold r s)
  | _, _ => done s

/-! ## HOLD TIME (R159) and DISPOSE (R160) -/

/-- R159: HOLD TIME. -/
def serveHoldTime (l : Link) (tag seconds : Nat) (s : State) : State :=
  if seconds = 0 then s.reply l tag .ok [.u16 s.qual.holdTime]
  else if between 10 600 seconds then
    { s with qual := { s.qual with holdTime := seconds } }.reply l tag .ok [.u16 seconds]
  else s.refuse l tag .badField

/-- R160: the record of a press with a disposition. -/
def disposeRecord (press : Nat) (d : Disposition) (r : Record) : Record :=
  if r.press = press then { r with disposition := some d, state := .disposed } else r

/-- R160: DISPOSE. -/
def serveDispose (l : Link) (tag press outcome operator : Nat) (s : State) : State :=
  match disposeOf outcome with
  | none => s.refuse l tag .badField
  | some o =>
    if !(between 1 Config.maxPress press && decide (operator ≤ 9999)) then s.refuse l tag .badField
    else match s.record press with
      | none => s.refuse l tag .notFound
      | some r =>
        if r.state ≠ .held then s.refuse l tag .notHeld
        else
          { s with
            store := { s.store with
              records := s.store.records.map (disposeRecord press { outcome := o, operator := operator }) }
            qual := s.qual.free }.reply l tag .ok [.u16 press]

end Sys2Proof.Machine
end

