-- ==== Sys2Proof/Machine/Verdict.lean ====
section
/-! DEFINITION. The verdict unit: rank windows, carry, step force and share, entry and hold checks, pin and press verdicts
(chapter 7). Every function reads the record, the profile and the knee onset bin, and nothing else. -/

namespace Sys2Proof.Machine

/-- R121: the press standings. -/
inductive Standing where
  | notPressed | pressed | seated
  deriving DecidableEq, Repr

/-- R121: the end cause of the PRESS step, absent where none ran. -/
def pressCause (outcomes : List StepOutcome) : Option EndCause :=
  (outcomes.find? (fun o => decide (o.kind = .press))).map (·.cause)

/-- R121: the press standing. -/
def standing (outcomes : List StepOutcome) : Standing :=
  match pressCause outcomes with
  | none => .notPressed
  | some .seated => .seated
  | some _ => .pressed

/-! ## Rank windows (R122 to R125) -/

/-- R122: the onset bin of a rank. -/
def onsetBin (e : TypeEntry) (r : Nat) : Nat := onsetOf e r / Config.binDepth

/-- R122: the full last bin of rank r in column j. -/
def fullLast (c : CatalogueCopy) (j r : Nat) : Nat :=
  onsetBin c.entry r + engageOf c.classes (rankClass c.entry j r) / Config.binDepth - 1

/-- R123: the next rank of rank r in column j. -/
def nextRank (e : TypeEntry) (j r : Nat) : Option Nat := (ranksPresent e j).find? (fun r' => decide (r < r'))

/-- R123: the last bin of the window of rank r in column j. -/
def lastBin (c : CatalogueCopy) (j r : Nat) : Nat :=
  match nextRank c.entry j r with
  | some r' => if onsetBin c.entry r' - 1 < fullLast c j r then onsetBin c.entry r' - 1 else fullLast c j r
  | none => fullLast c j r

/-- The bins of the window, both ends included. -/
def windowBins (c : CatalogueCopy) (j r : Nat) : List Nat :=
  List.range' (onsetBin c.entry r) (lastBin c j r + 1 - onsetBin c.entry r)

/-- R124: the window is complete. -/
def windowComplete (st : Standing) (pressEnd : Option Nat) (last : Nat) : Bool :=
  decide (st ≠ .notPressed) && (match pressEnd with
    | some b => decide (last < b)
    | none => false)

/-- R126: the carry force and the mark of its source. -/
def carryOf (c : CatalogueCopy) (channel : Bins) (base : Option FingerSample) (r : Nat) : FingerSample :=
  if onsetBin c.entry r = 0 then base.getD { value := 0, suspect := true }
  else
    let b := binRead channel (onsetBin c.entry r - 1)
    { value := b.value, suspect := b.suspect }

/-- R125: the window is suspect. -/
def windowSuspect (c : CatalogueCopy) (channel : Bins) (base : Option FingerSample) (j r : Nat) : Bool :=
  (windowBins c j r).any (fun b => (binRead channel b).suspect) || (carryOf c channel base r).suspect

/-- R127: the window peak. -/
def windowPeak (c : CatalogueCopy) (channel : Bins) (j r : Nat) : Nat :=
  maxOf ((windowBins c j r).map (fun b => (binRead channel b).value))

/-- R128: the share, the step force over n pins rounded half up. -/
def shareOf (step n : Nat) : Nat := (2 * step + n) / (2 * n)

/-- R129: the entry check of a share against its class. -/
def entryCheck (cls : Option ClassEntry) (share : Nat) : Verdict :=
  match cls with
  | none => .pass
  | some k => if k.entryMax < share then .highEntry else if share < k.entryMin then .lowEntry else .pass

/-- R126 to R129, R133: the rank result of rank r in column j. -/
def judgeRank (c : CatalogueCopy) (st : Standing) (pressEnd : Option Nat) (channel : Bins)
    (base : Option FingerSample) (judged : Bool) (j r : Nat) : RankResult :=
  let n := (rankPins c.entry j r).length
  if !judged || !windowComplete st pressEnd (lastBin c j r) then
    { rank := r, pins := n, carry := none, peak := none, step := none, share := none, verdict := .unjudged }
  else
    let carry := (carryOf c channel base r).value
    let peak := windowPeak c channel j r
    let step := peak - carry
    let share := shareOf step n
    { rank := r, pins := n, carry := some carry, peak := some peak, step := some step, share := some share,
      verdict := if windowSuspect c channel base j r then .suspect
        else entryCheck (tabGet c.classes (rankClass c.entry j r)) share }

/-! ## Holds (R130, R131) -/

/-- R130, R131: the hold force and hold verdict of column j. -/
def judgeHold (c : CatalogueCopy) (st : Standing) (knee : Option Nat) (channel : Bins) (judged : Bool) (j : Nat) :
    Option Nat × Verdict :=
  match st, knee with
  | .seated, some k =>
    if !judged || decide (columnPinCount c.entry j = 0) then (none, .unjudged)
    else
      let b := binRead channel (k - 1)
      (some b.value,
        if b.suspect then .suspect
        else if holdHigh c.classes c.entry j < b.value then .holdHigh
        else if b.value < holdLow c.classes c.entry j then .holdLow
        else .pass)
  | _, _ => (none, .unjudged)

/-! ## Columns and pins (R132, R133) -/

/-- R120, R133: a column result with its judged fields. -/
def judgeColumn (c : CatalogueCopy) (st : Standing) (p : Profile) (knee : Option Nat) (col : ColumnResult) : ColumnResult :=
  let channel := p.channel col.column
  let base := p.bases.bind (fun bs => bs[col.column - 1]?)
  let hold := judgeHold c st knee channel col.judged col.column
  { col with
    ranks := (ranksPresent c.entry col.column).map
      (judgeRank c st p.pressEnd channel base col.judged col.column)
    hold := hold.1
    holdVerdict := some hold.2 }

/-- R132: the verdict of a pin from its rank verdict and its column's hold verdict. A rank verdict that is not PASS
stands (orders 1 to 4); the hold verdict then decides (orders 5 to 8). -/
def pinVerdict (rank hold : Verdict) : Verdict := if rank = .pass then hold else rank

/-- R132, R133: the pin verdicts of a judged column, in order of row. -/
def judgePins (e : TypeEntry) (col : ColumnResult) : List PinResult :=
  (columnRows e col.column).map (fun (i, p) =>
    { column := col.column, row := i,
      verdict := pinVerdict
        (((col.ranks.find? (fun r => decide (r.rank = p.rank))).map (·.verdict)).getD .unjudged)
        (col.holdVerdict.getD .unjudged) })

/-! ## The press verdict (R134) -/

/-- R134: a pin verdict that fails the press. -/
def failing (v : Verdict) : Bool :=
  match v with
  | .lowEntry | .highEntry | .holdLow | .holdHigh => true
  | .pass | .suspect | .unjudged => false

/-- R134: the PRESS step ended EARLY_SEAT, OVERTRAVEL or FORCE_CAP. -/
def rejectingEnd (c : Option EndCause) : Bool :=
  match c with
  | some .earlySeat | some .overtravel | some .forceCap => true
  | _ => false

/-- R134: the press verdict. -/
def pressVerdict (outcomes : List StepOutcome) (pins : List PinResult) : PressVerdict :=
  if rejectingEnd (pressCause outcomes) || pins.any (fun p => failing p.verdict) then .reject
  else if standing outcomes ≠ .seated then .incomplete
  else if pins.any (fun p => decide (p.verdict = .suspect) || decide (p.verdict = .unjudged)) then .review
  else .accept

/-- R119: the open record judged. -/
def judge (p : Profile) (knee : Option Nat) (r : Record) : Record :=
  let columns := r.columns.map (judgeColumn r.copy (standing r.outcomes) p knee)
  let pins := columns.flatMap (judgePins r.copy.entry)
  { r with columns := columns, pins := pins, verdict := some (pressVerdict r.outcomes pins) }

end Sys2Proof.Machine
end

