-- ==== Sys2Proof/Machine/Store.lean ====
section
/-! DEFINITION. The result store: press numbers, and the requests that read and release records (chapter 8). -/

namespace Sys2Proof.Machine

/-! ## Press numbers (R138) -/

/-- R138: the number after a press number. -/
def pressAfter (n : Nat) : Nat := if n < Config.maxPress then n + 1 else 1

/-- R138: the first free number from a candidate on; a store of at most 31 records is passed in as many steps. -/
def freePress (rs : List Record) : Nat → Nat → Nat
  | 0, n => n
  | k + 1, n => if rs.any (fun r => decide (r.press = n)) then freePress rs k (pressAfter n) else n

/-- R138: the press number the next START is given. -/
def Store.newPress (st : Store) : Nat := freePress st.records st.records.length st.next

/-! ## Replies -/

/-- R145: one entry of the store directory. -/
def directoryEntry (r : Record) : List Wire :=
  [.u16 r.press, .u8 (recordStateCode r.state)] ++ opt8 (r.verdict.map pressVerdictCode)

/-- R145: the store directory. The record count is sent as the field it is and again as the count of the entries
(DESIGN CHOICE, notes/assumptions/14.md; unsafe). -/
def directoryWire (st : Store) : List Wire :=
  [.u8 st.records.length, .u16 st.next, .u8 st.records.length] ++ st.records.flatMap directoryEntry

/-- R139: the disposition of a record, as an optional field. -/
def dispositionWire (d : Option Disposition) : List Wire :=
  [.flag d.isSome, .u8 ((d.map (fun d => disposeCode d.outcome)).getD 0), .u16 ((d.map (·.operator)).getD 0)]

/-- R139: every field of the header. The head kind and the width take one byte each
(DESIGN CHOICE, notes/assumptions/14.md; unsafe). -/
def headerWire (r : Record) : List Wire :=
  [.u16 r.press, .u8 (recordStateCode r.state), .u16 r.typeId, .text r.serial, .u8 r.first,
   .u8 (orientationCode r.orientation), .u8 r.headKind, .u8 (levelCode r.level), .flag r.audit, .u8 (widthLanes r.width)]
    ++ optPos r.touch ++ opt32 r.seat ++ opt8 (r.cause.map causeCode) ++ opt8 (r.verdict.map pressVerdictCode)
    ++ .u16 r.peak :: dispositionWire r.disposition

/-- R146: the seven verdicts, in the order of their codes. -/
def allVerdicts : List Verdict := [.pass, .lowEntry, .highEntry, .holdLow, .holdHigh, .suspect, .unjudged]

/-- R146: the number of pin verdicts of a kind. -/
def tally (pins : List PinResult) (v : Verdict) : Nat := (pins.filter (fun p => decide (p.verdict = v))).length

/-- R146: the verdict tally, absent while the record is OPEN. -/
def tallyWire (r : Record) : List Wire :=
  if r.state = .opened then .flag false :: allVerdicts.map (fun _ => .u16 0)
  else .flag true :: allVerdicts.map (fun v => .u16 (tally r.pins v))

/-- R85: a step outcome. The travelled distance takes four bytes (DESIGN CHOICE, notes/assumptions/14.md; unsafe). -/
def outcomeWire (o : StepOutcome) : List Wire :=
  [.u8 o.index, .u8 (kindCode o.kind), .u8 (causeCode o.cause), .s32 o.start, .s32 o.stop, .u32 o.travelled, .u16 o.peak]
    ++ opt16 o.speedUsed ++ [.flag o.clamped.isSome, .flag (o.clamped.getD false)]

/-- R146: the step outcomes from an index on, up to 8. -/
def outcomesFrom (r : Record) (first : Nat) : List StepOutcome :=
  (r.outcomes.filter (fun o => decide (first ≤ o.index))).take 8

/-- R146: the reply of RESULT SUMMARY on a record. -/
def summaryWire (r : Record) (first : Nat) : List Wire :=
  headerWire r ++ [.u8 r.copy.entry.cols, .u16 (pinCount r.copy.entry)] ++ tallyWire r
    ++ [.u8 r.outcomes.length, .u8 (outcomesFrom r first).length] ++ (outcomesFrom r first).flatMap outcomeWire

/-- R147: a rank result, the fields of R140 in their order and then its rank class from the copy. -/
def rankWire (e : TypeEntry) (j : Nat) (r : RankResult) : List Wire :=
  [.u8 r.rank, .u8 r.pins] ++ opt16 r.carry ++ opt16 r.peak ++ opt16 r.step ++ opt16 r.share
    ++ [.u8 (verdictCode r.verdict), .u8 (rankClass e j r.rank)]

/-- R147: the reply of RESULT COLUMN; the column status is 0 JUDGED, 1 ABSENT. The column's number takes one byte
(DESIGN CHOICE, notes/assumptions/14.md; unsafe). -/
def columnWire (e : TypeEntry) (c : ColumnResult) : List Wire :=
  [.u8 c.column, .u8 c.position, .u8 (if c.judged then 0 else 1)] ++ sampleWire c.base
    ++ [.u8 (columnPinCount e c.column)] ++ opt16 c.hold ++ opt8 (c.holdVerdict.map verdictCode)
    ++ .u8 c.ranks.length :: c.ranks.flatMap (rankWire e c.column)

/-- R148: one pin entry: the row, the pin's rank from the copy, its verdict. The row takes one byte
(DESIGN CHOICE, notes/assumptions/14.md; unsafe). -/
def pinWire (e : TypeEntry) (p : PinResult) : List Wire :=
  [.u8 p.row, .u8 ((((columnRows e p.column).find? (fun q => decide (q.1 = p.row))).map (·.2.rank)).getD 0),
   .u8 (verdictCode p.verdict)]

/-- R148: the pin verdicts of a column, none while the record is OPEN. -/
def pinsOf (r : Record) (column : Nat) : List PinResult :=
  if r.state = .opened then [] else r.pins.filter (fun p => decide (p.column = column))

/-- R148: the reply of RESULT PINS. -/
def pinsWire (r : Record) (column : Nat) : List Wire :=
  [.flag (decide (r.state ≠ .opened)), .u8 (columnPinCount r.copy.entry column), .u8 (pinsOf r column).length]
    ++ (pinsOf r column).flatMap (pinWire r.copy.entry)

/-! ## Requests -/

/-- R145, R146: RESULT SUMMARY. -/
def serveResultSummary (l : Link) (tag press first : Nat) (s : State) : State :=
  if press = 0 then s.reply l tag .ok (directoryWire s.store)
  else if !decide (first ≤ 15) then s.refuse l tag .badField
  else match s.record press with
    | none => s.refuse l tag .notFound
    | some r => s.reply l tag .ok (summaryWire r first)

/-- R147: the checks of RESULT COLUMN and RESULT PINS: the refusal, or the record. -/
def columnCheck (press column : Nat) (s : State) : Status ⊕ Record :=
  if press = 0 ∨ Config.maxPress < press then .inl .badField
  else match s.record press with
    | none => .inl .notFound
    | some r => if between 1 r.copy.entry.cols column then .inr r else .inl .badField

/-- R147: RESULT COLUMN. -/
def serveResultColumn (l : Link) (tag press column : Nat) (s : State) : State :=
  match columnCheck press column s with
  | .inl status => s.refuse l tag status
  | .inr r => match r.columns.find? (fun c => decide (c.column = column)) with
    | some c => s.reply l tag .ok (columnWire r.copy.entry c)
    | none => s.refuse l tag .badField

/-- R148: RESULT PINS. -/
def serveResultPins (l : Link) (tag press column : Nat) (s : State) : State :=
  match columnCheck press column s with
  | .inl status => s.refuse l tag status
  | .inr r => s.reply l tag .ok (pinsWire r column)

/-- R149: RESULT RELEASE. -/
def serveResultRelease (l : Link) (tag press : Nat) (s : State) : State :=
  if press = 0 ∨ Config.maxPress < press then s.refuse l tag .badField
  else match s.record press with
    | none => s.refuse l tag .notFound
    | some r =>
      if r.state = .opened then s.refuse l tag .busy
      else if r.state = .held then s.refuse l tag .held
      else
        let rs := s.store.records.filter (fun r => decide (r.press ≠ press))
        { s with store := { s.store with records := rs } }.reply l tag .ok [.u8 rs.length]

end Sys2Proof.Machine
end

