-- ==== Sys2Proof/Machine/JobUnit.lean ====
section
/-! DEFINITION. The job unit: JOB, STEP, STEP FLUSH, START, STOP, the end given at a hand-over, the underrun timer and the
rest report (chapter 3). -/

namespace Sys2Proof.Machine

/-! ## JOB (R47) -/

/-- R47: the job a JOB request makes. -/
def newJob (typeId first : Nat) (serial : List Nat) (mode : ProgramMode) : Job :=
  { typeId := typeId, first := first, serial := serial, mode := mode, queue := [], grammar := .opening,
    pressAccepted := false, count := 0, run := none }

/-- R47, check 2, less the mode. -/
def jobFields (typeId first : Nat) (serial : List Nat) : Bool :=
  between 1 9999 typeId && between 1 48 first && between 1 24 serial.length && serial.all printable

/-- R47: JOB. -/
def serveJob (l : Link) (tag typeId first : Nat) (serial : List Nat) (mode : Nat) (s : State) : State :=
  match s.job, modeOf mode with
  | some _, _ => s.refuse l tag .jobExists
  | none, none => s.refuse l tag .badField
  | none, some m =>
    if !jobFields typeId first serial then s.refuse l tag .badField
    else match tabGet s.cat.types typeId with
      | none => s.refuse l tag .notFound
      | some e =>
        if 48 < first + e.cols - 1 then s.refuse l tag .badField
        else { s with job := some (newJob typeId first serial m) }.reply l tag .ok
          [.u8 e.cols, .u8 first, .u8 (first + e.cols - 1)]

/-! ## STEP (R52) and STEP FLUSH (R53) -/

/-- R46, R52: the job that may take a step: PREPARED, or RUNNING with its program in progress. -/
def State.openJob (s : State) : Option Job :=
  match s.job with
  | none => none
  | some j => match j.run with
    | none => some j
    | some r => if r.ended then none else some j

/-- R52, check 2: the step record of an offer. -/
def offeredStep (offer : StepOffer) (last : Nat) : Option StepRecord :=
  match offer, flagOf last with
  | .known b, some f => if bodyInRange b then some { body := b, last := f } else none
  | _, _ => none

/-- R51, R52: the job with a step accepted, whose kind leads to a grammar position. -/
def Job.accept (j : Job) (rec : StepRecord) (next : Grammar) : Job :=
  { j with
    queue := j.queue ++ [rec], count := j.count + 1, grammar := if rec.last then .closing else next,
    pressAccepted := j.pressAccepted || decide (bodyKind rec.body = .press) }

/-- R52: an accepted step joins the queue, and is handed over at once where the stroke is PAUSED (R59). -/
def acceptStep (j : Job) (rec : StepRecord) (next : Grammar) (s : State) : State :=
  let s := { s with job := some (j.accept rec next) }
  if s.jobRunning ∧ s.motion.stroke = .paused then handOver (s.onRun (fun r => { r with underrun := false })) else s

/-- R52: what an accepted STEP is answered: the free queue slots and the program count. -/
def stepWire (s : State) : List Wire :=
  match s.job with
  | some j => [.u8 (Config.maxSteps - j.queue.length), .u8 j.count]
  | none => []

/-- R52: STEP. -/
def serveStep (l : Link) (tag : Nat) (offer : StepOffer) (last : Nat) (s : State) : State :=
  match s.openJob with
  | none => s.refuse l tag .noJob
  | some j => match offeredStep offer last with
    | none => s.refuse l tag .badField
    | some rec => match grammarNext j.grammar (bodyKind rec.body) with
      | none => s.refuse l tag .programOrder
      | some next =>
        if Config.maxSteps ≤ j.queue.length then s.refuse l tag .queueFull
        else if Config.maxSteps ≤ j.count then s.refuse l tag .programFull
        else
          let s := acceptStep j rec next s
          s.reply l tag .ok (stepWire s)

/-- R53: STEP FLUSH. -/
def serveStepFlush (l : Link) (tag : Nat) (s : State) : State :=
  match s.job with
  | none => s.refuse l tag .busy
  | some j =>
    if j.run.isSome then s.refuse l tag .busy
    else { s with job := some { j with queue := [], grammar := .opening, pressAccepted := false, count := 0 } }.reply
      l tag .ok [.u8 Config.maxSteps]

/-! ## START (R54, R55) -/

/-- R54, check 2. -/
def strokeRefusal : Stroke → Option Status
  | .idle => none
  | .unhomed => some .notHomed
  | .faulted => some .notHomed
  | .homing => some .busy
  | .running => some .busy
  | .paused => some .busy
  | .stopping => some .busy
  | .retracting => some .busy

/-- R51, R54: the program of a job may start. -/
def Job.startable (j : Job) : Bool :=
  match j.mode with
  | .preloaded => decide (j.grammar = .closing) && j.pressAccepted
  | .streamed => !j.queue.isEmpty

/-- R48, R54: the column map START would fix. -/
def State.startMap (s : State) (j : Job) (e : TypeEntry) : List Nat :=
  columnMap (s.head.orientation.getD .normal) j.first e.cols

/-- R155: the entry of the job's type on the recorded head kind. -/
def State.qualEntry (s : State) (j : Job) : Option QualEntry := tabGet s.qual.table (qualKey j.typeId (s.head.kind.getD 0))

/-- R54, checks 5 to 9, with the job's connector type entry. -/
def startChecksLate (s : State) (j : Job) (e : TypeEntry) : Option Status :=
  match s.qualEntry j with
  | none => some .notQualified
  | some q =>
    if q.level = .q1 ∧ ¬ ((s.startMap j e).all s.head.ready) then some .sensingIncomplete
    else if s.store.records.any (fun r => decide (r.state = .held)) then some .held
    else if Config.storeCapacity ≤ s.store.records.length then some .resultsFull
    else if j.startable then none else some .programIncomplete

/-- R54: the first check of START that fails, for a PREPARED job and its connector type entry. -/
def startChecks (s : State) (j : Job) (e : TypeEntry) : Option Status :=
  match strokeRefusal s.motion.stroke with
  | some st => some st
  | none =>
    if s.openSet ≠ [] then some .guardOpen
    else if s.head.status ≠ .ready then some .headNotReady
    else if s.head.tare.isSome then some .busy
    else startChecksLate s j e

/-- R55: the column results of a new record. -/
def newColumns (h : Head) (map : List Nat) : List ColumnResult :=
  map.zipIdx.map (fun (p, i) =>
    { column := i + 1, position := p, judged := h.ready p, base := none, ranks := [], hold := none, holdVerdict := none })

/-- R55: the record START opens. -/
def newRecord (s : State) (j : Job) (e : TypeEntry) (q : QualEntry) (press : Nat) : Record :=
  { press := press, state := .opened, typeId := j.typeId, serial := j.serial, first := j.first,
    orientation := s.head.orientation.getD .normal, headKind := s.head.kind.getD 0, level := q.level, audit := (audit q).2,
    width := s.head.width.getD .four, touch := none, seat := none, cause := none, verdict := none, peak := 0,
    disposition := none, copy := takeCopy s.cat.classes e, outcomes := [],
    columns := newColumns s.head (s.startMap j e), pins := [] }

/-- R107: what the monitor loads at START. -/
def loadLimits (press : Nat) (c : CatalogueCopy) : Limits :=
  { press := press, caps := (columnsOf c.entry).map (fingerCap c.classes c.entry),
    searchStart := searchStart c.classes c.entry, bandLow := bandLow c.entry, bandHigh := bandHigh c.entry,
    overtravel := overtravelDepth c.entry, kneeRise := kneeRise c.entry }

/-- R46, R55: the running part of a job as its program begins. -/
def newRun (press : Nat) (map : List Nat) : Run :=
  { press := press, map := map, handed := 0, inHand := none, ended := false, underrun := false, restMade := false,
    fingersGone := false }

/-- R55: START is taken: every change but the first hand-over. -/
def openPress (j : Job) (e : TypeEntry) (q : QualEntry) (s : State) : State :=
  let press := s.store.newPress
  let map := s.startMap j e
  let record := newRecord s j e q press
  { s with
    store := { records := s.store.records ++ [record], next := pressAfter press }
    qual := { s.qual with table := tabPut s.qual.table (qualKey j.typeId (s.head.kind.getD 0)) (audit q).1 }
    profile := s.profile.start press j.typeId e.cols map
    monitor := { phase := .watching, limits := some (loadLimits press record.copy), ramCap := none, knee := none, seat := none }
    job := some { j with run := some (newRun press map) } }

/-- R54, R55: START. A PREPARED job's type is stored as long as the lock of R17 stands; were it not, the answer would be
NOT_FOUND (DESIGN CHOICE, notes/assumptions/4.md; safe). -/
def serveStart (l : Link) (tag : Nat) (s : State) : State :=
  match s.job with
  | none => s.refuse l tag .noJob
  | some j =>
    if j.run.isSome then s.refuse l tag .busy
    else match tabGet s.cat.types j.typeId with
      | none => s.refuse l tag .notFound
      | some e => match startChecks s j e, s.qualEntry j with
        | some st, _ => s.refuse l tag st
        | none, none => s.refuse l tag .notQualified
        | none, some q => (handOver (openPress j e q s)).reply l tag .ok [.u16 s.store.newPress]

/-! ## STOP (R62) -/

/-- R62: what STOP does to the job. -/
def stopJob (s : State) : State :=
  match s.job with
  | none => s
  | some j => match j.run with
    | none => { s with job := none }
    | some r => if r.ended then s else interrupt .stopped false s

/-- R62, R71: STOP, which ends a homing beside its effect on the job. -/
def takeStop (s : State) : State :=
  let s' := stopJob s
  if s.motion.stroke = .homing then endHoming .stopped false s' else s'

/-- R62: STOP, answered OK in every job state. -/
def serveStop (l : Link) (tag : Nat) (s : State) : State := (takeStop s).reply l tag .ok []

/-! ## Events -/

/-- R74, R75, R77: the end of a step that was given at its hand-over. -/
def handOverCause : StepBody → EndCause
  | .probe .. => .noTouch
  | .dwell .. => .elapsed
  | .move .. => .reached
  | .press .. => .seated
  | .retract .. => .reached

/-- HANDOVER_END (R73): the end that R74, R75 or R77 gave at the hand-over is taken. The end position is this event's own count,
also while a stop ramp still falls, where R74's position of rest does not exist yet (DESIGN CHOICE, notes/assumptions/36.md;
unsafe). -/
def execHandoverEnd (s : State) (enc : Int := 0) : Host.Outcome State Fault Refusal :=
  let s := s.latch enc
  match s.inHand with
  | some h => if h.endsNow then done (endStep (handOverCause h.record.body) s.motion.position false s) else done s
  | none => done s

/-- R59: the underrun timer runs. -/
def State.underrunRuns (s : State) : Bool := decide (s.motion.stroke = .paused) && (s.run.map (·.underrun)).getD false

/-- UNDERRUN_TIMEOUT (R59): the 500 ms of a PAUSED program have passed. -/
def execUnderrunTimeout (s : State) (enc : Int := 0) : Host.Outcome State Fault Refusal :=
  let s := s.latch enc
  if s.underrunRuns then done (endPaused .underrun false s) else done s

/-! ## The rest report and the judgement (R65, R143) -/

/-- R65: the rest report may be taken. It has been made when the motion block made it or the stroke state is IDLE or
FAULTED (DEDUCED, notes/assumptions/8.md; unsafe). -/
def restReady (s : State) : Bool :=
  match s.run with
  | some r => r.ended && s.profile.complete
      && (r.restMade || decide (s.motion.stroke = .idle) || decide (s.motion.stroke = .faulted))
  | none => false

/-- R143: the state a judged record enters. -/
def settleRecord (r : Record) : Record := { r with state := if heldBy r then .held else .complete }

/-- R65, R107: the job becomes NONE and the monitor INACTIVE. -/
def dropJob (s : State) : State :=
  { s with job := none, monitor := { s.monitor with phase := .inactive, limits := none } }

/-- R143, R144, R157: the open record judged, held or completed, and announced. -/
def announce (r : Record) (s : State) : State :=
  let s := s.onRecord (fun _ => r)
  let s := if heldBy r then { s with qual := s.qual.hold r.press } else s
  s.raise (.pressDone r.press (r.verdict.getD .accept) r.state)

/-- R65, R119, R143: the rest report is taken. -/
def takeRestReport (s : State) : State :=
  match s.store.records.find? (fun r => decide (r.state = .opened)) with
  | some r => announce (settleRecord (judge s.profile s.monitor.knee r)) (dropJob s)
  | none => dropJob s

/-- REST_REPORT (R65): the program has ended, the profile is complete and the ram rests. -/
def execRestReport (s : State) : Host.Outcome State Fault Refusal :=
  if restReady s then done (takeRestReport s) else done s

end Sys2Proof.Machine
end

