-- ==== Sys2Proof/Machine/Samples.lean ====
section
/-! DEFINITION. RAM_SAMPLE and FRAME_INSTANT: the samples of the ram cell and of the fingers, touch, the caps, the knee,
overtravel, cell alerts and the failure of a position (chapters 2, 5 and 6). -/

namespace Sys2Proof.Machine

/-! ## The ram sample (R87) -/

/-- R87: the value of a raw ram reading against the stored ram offset. -/
def ramValue (offset raw : Int) : Nat := min Config.maxRam (raw - offset).toNat

/-- R87: a ram sample is saturated, and suspect. -/
def ramSaturated (offset raw : Int) : Bool := decide ((Config.maxRam : Int) ≤ raw - offset)

/-- R71: the ram tare takes a raw sample, up to the 64th. -/
def tareRam (raw : Int) : HomingPhase → HomingPhase
  | .taring rest sum n => if n < Config.tareSamples then .taring rest (sum + raw) (n + 1) else .taring rest sum n
  | p => p

/-- R158, R166: 100 µs pass: the hold-overdue time remaining falls and the time the open-guard set has stood non-empty
rises (DEDUCED, notes/assumptions/1.md; unsafe). -/
def tick (s : State) : State :=
  { s with
    qual := { s.qual with remaining := s.qual.remaining.map (· - 1) }
    guards := { s.guards with
      openTicks := if s.openSet = [] then s.guards.openTicks else s.guards.openTicks + 1 } }

/-- R74, R75: the position at which a step's trajectory stops. -/
def aimOf : StepBody → Option Int
  | .move t _ => some t
  | .retract t _ => some t
  | .probe l _ _ _ => some l
  | .press .. => none
  | .dwell _ => none

/-- R72, R74, R75, R84: the position that the ram is to come to rest at. -/
def State.aim (s : State) : Option Int :=
  match s.motion.stroke with
  | .running => s.inHand.bind (fun h => aimOf h.record.body)
  | .retracting => some 0
  | .unhomed | .homing | .idle | .paused | .stopping | .faulted => none

/-- R74, R75, R84: at the ordinary rate a speed is to fall from now on, so as to arrive at a position without passing it, with
the commanded speed telling the side from which (DEDUCED, notes/assumptions/6.md; unsafe). -/
def mustFall (commanded speed position aim : Int) : Bool :=
  let left := if 0 < commanded then aim - position else position - aim
  decide (Config.stopDivisor * left ≤ speed * speed)

/-- R68: the speed that the ramp output moves toward: zero on the approach to a target, else the commanded speed. -/
def State.rampGoal (s : State) : Int :=
  match s.aim with
  | some a => if mustFall s.motion.commanded s.motion.ramp.output s.motion.position a then 0 else s.motion.commanded
  | none => s.motion.commanded

/-- R85, R87: a ram sample raises the peak of the step in hand and of the open record while a job is RUNNING. -/
def raisePeaks (value : Nat) (s : State) : State :=
  if s.jobRunning then
    (s.onHand (fun h => { h with peak := max h.peak value })).onRecord (fun r => { r with peak := max r.peak value })
  else s

/-! ## Touch (R89 to R91) -/

/-- R90: the touch bases, from the latest samples of the mapped positions; 0 and suspect where there is none. -/
def touchBases (h : Head) (map : List Nat) : List FingerSample :=
  map.map (fun p => ((h.entry p).latest).getD { value := 0, suspect := true })

/-- R90: the touch bases written into the column results. -/
def writeBases (bases : List FingerSample) (cols : List ColumnResult) : List ColumnResult :=
  cols.map (fun c => { c with base := bases[c.column - 1]? })

/-- R90, R91: touch is taken with a sample at a position while a PROBE step with this window is in hand. -/
def takeTouch (windowMin windowMax : Nat) (position : Int) (value : Nat) (suspect : Bool) (s : State) : State :=
  let s := { s with profile := { s.profile with touch := some position, touchForce := some value } }.onRecord
    (fun r => { r with touch := some position })
  if (windowMin : Int) ≤ position ∧ position ≤ (windowMax : Int) then
    let bases := touchBases s.head ((s.run.map (·.map)).getD [])
    let s := { s with profile := ({ s.profile with bases := some bases, binning := true }.binRam position value suspect).1 }
    let s := s.onRecord (fun r => { r with columns := writeBases bases r.columns })
    endStep .touched position false s
  else endStep .touchWindow position false s

/-! ## The monitor's ram tests (R108, R109, R114 to R116) -/

/-- R114: the onset bin of the first completed bin that passes the knee test, whose values are used whatever their marks. -/
def kneeFind (p : Profile) (lim : Limits) (completed : List Completion) : Option Nat :=
  (completed.find? (fun c =>
    decide (Config.kneeSpan ≤ c.bin) && decide (lim.searchStart ≤ Config.binDepth * (c.bin - Config.kneeSpan))
      && decide ((binRead (p.channel 0) (c.bin - Config.kneeSpan)).value + lim.kneeRise ≤ c.value))).map
    (fun c => c.bin - Config.kneeSpan)

/-- R115: the end cause of a knee with its onset depth. -/
def kneeCause (lim : Limits) (depth : Nat) : EndCause :=
  if depth < lim.bandLow then .earlySeat else if depth ≤ lim.bandHigh then .seated else .overtravel

/-- R114, R115: the knee of onset bin k ends the PRESS step. -/
def takeKnee (lim : Limits) (k : Nat) (position : Int) (s : State) : State :=
  let depth := Config.binDepth * k
  let cause := kneeCause lim depth
  let s := { s with monitor := { s.monitor with knee := some k, seat := some depth } }
  let s := if cause = .overtravel then s else s.onRecord (fun r => { r with seat := some depth })
  endStep cause position false s

/-- R116: the sample's depth is at or beyond the overtravel depth. -/
def beyondOvertravel (p : Profile) (lim : Limits) (position : Int) : Bool :=
  match p.touch with
  | some t => decide ((lim.overtravel : Int) ≤ position - t)
  | none => false

/-- R109: the three ram tests of the PRESSING phase, in order; the first that ends the step stops them. -/
def ramTests (position : Int) (value : Nat) (completed : List Completion) (s : State) : State :=
  match s.monitor.ramCap, s.monitor.limits with
  | some cap, some lim =>
    if cap < value then endStep .forceCap position false s
    else
      match kneeFind s.profile lim completed with
      | some k => takeKnee lim k position s
      | none => if beyondOvertravel s.profile lim position then endStep .overtravel position false s else s
  | _, _ => s

/-- R89: the step in hand is a PROBE, so that touch detection is armed: its touch window. -/
def armed (s : State) : Option (Nat × Nat) :=
  match s.inHand with
  | some h => match h.record.body with
    | .probe _ _ a b => some (a, b)
    | _ => none
  | none => none

/-- R89: the touch threshold of the record's catalogue copy. -/
def touchThreshold (s : State) : Nat :=
  ((s.store.records.find? (fun r => decide (r.state = .opened))).map (fun r => r.copy.entry.touch)).getD 0

/-- R87: what a ram sample does while a job is RUNNING, after the peaks: touch, or binning and the monitor's tests. -/
def useRamSample (position : Int) (value : Nat) (suspect : Bool) (s : State) : State :=
  let pressing := s.monitor.phase = .pressing
  match armed s with
  | some (a, b) => if touchThreshold s ≤ value then takeTouch a b position value suspect s else s
  | none =>
    let (p, completed) := if s.profile.binning then s.profile.binRam position value suspect else (s.profile, [])
    let s := { s with profile := p }
    if pressing then ramTests position value completed s else s

/-- R68, R87: a ram sample is taken with the encoder count latched at its instant; the ramp output has moved on by its 100 µs. -/
def takeRamSample (raw enc : Int) (s : State) : State :=
  let s := (tick s).latch enc
  let value := ramValue s.motion.ramOffset raw
  let suspect := ramSaturated s.motion.ramOffset raw
  let s := { s with
    motion := { s.motion.remember with phase := tareRam raw s.motion.phase, ramp := s.motion.ramp.next s.rampGoal }
    profile := { s.profile with latestRam := value } }
  if s.jobRunning then useRamSample s.motion.position value suspect (raisePeaks value s) else s

/-! ## The frame instant (R35, R36) -/

/-- R35: the present positions a lane carries, in slot order. -/
def Head.slots (h : Head) (lane : Nat) : List Nat :=
  match h.width with
  | none => []
  | some w => allPositions.filter (fun p => decide (laneOf w h.lanes p = lane) && decide ((h.entry p).status = .present))

/-- R35, R36: a lane's complete frame of this instant that passed its CRC. One that does not hold a raw sample for each
slot is no complete frame (DEDUCED, notes/assumptions/12.md; unsafe). -/
def Head.goodFrame (h : Head) (frames : List LaneFrame) (lane : Nat) : Option LaneFrame :=
  frames.find? (fun f => decide (f.lane = lane) && decide (f.raws.length = (h.slots lane).length))

/-- R35: the raw samples of the lanes whose frames passed, with their positions. -/
def Head.rawSamples (h : Head) (frames : List LaneFrame) : List (Nat × Int) :=
  h.lanes.flatMap (fun lane => match h.goodFrame frames lane with
    | some f => (h.slots lane).zip f.raws
    | none => [])

/-- R36: the consecutive-bad-frame counts after this instant. -/
def Head.countBad (h : Head) (frames : List LaneFrame) : List Nat :=
  h.bad.zipIdx.map (fun (n, i) =>
    if i + 1 ∈ h.lanes then
      if (h.goodFrame frames (i + 1)).isSome then 0 else min Config.badFrameLimit (n + 1)
    else 0)

/-- R35: a raw sample tared, clamped and marked. -/
def tareSample (e : PosEntry) (raw : Int) : FingerSample :=
  let v := raw - e.offset
  { value := min Config.maxFinger v.toNat,
    suspect := decide ((Config.maxFinger : Int) ≤ v) || !e.tared || e.overtemp || e.drift || e.failed }

/-- The head with one position entry changed. -/
def Head.onEntry (h : Head) (p : Nat) (f : PosEntry → PosEntry) : Head :=
  if p = 0 then h else { h with table := h.table.modify (p - 1) f }

/-- R41: the tare in progress takes an instant's raw samples, up to the 64th instant. -/
def Tare.take (t : Tare) (raws : List (Nat × Int)) : Tare :=
  if t.instants < Config.tareSamples then
    { t with
      instants := t.instants + 1
      sums := t.sums.map (fun u => match raws.find? (fun r => decide (r.1 = u.position)) with
        | some r => { u with sum := u.sum + r.2, count := u.count + 1 }
        | none => u) }
  else t

/-- R35, R36, R41: the head after the frames of an instant: counts, latest samples, the tare; and the finger frame. -/
def Head.takeFrames (h : Head) (frames : List LaneFrame) : Head × List (Nat × FingerSample) :=
  let raws := h.rawSamples frames
  let finger := raws.map (fun (p, r) => (p, tareSample (h.entry p) r))
  let h := { h with bad := h.countBad frames, tare := h.tare.map (fun t => t.take raws), acks := [] }
  (finger.foldl (fun h (p, v) => h.onEntry p (fun e => { e with latest := some v })) h, finger)

/-- A position's sample in a finger frame. -/
def fingerOf (finger : List (Nat × FingerSample)) (p : Nat) : Option FingerSample :=
  (finger.find? (fun e => decide (e.1 = p))).map (·.2)

/-- R88, R96, R97: the finger frame is binned, column by column, while binning is active. -/
def binFingers (map : List Nat) (position : Int) (finger : List (Nat × FingerSample)) (p : Profile) : Profile :=
  if p.binning then
    map.zipIdx.foldl (fun p (pos, i) => match fingerOf finger pos with
      | some v => p.bin (i + 1) position v.value v.suspect
      | none => p) p
  else p

/-- R110: some column's sample stands above its finger cap. -/
def overFingerCap (caps : List (Option Nat)) (map : List Nat) (finger : List (Nat × FingerSample)) : Bool :=
  (map.zip caps).any (fun (pos, cap) => match cap, fingerOf finger pos with
    | some c, some v => decide (c < v.value)
    | _, _ => false)

/-- R88, R110: what a finger frame does while a job is RUNNING: it is binned, unless the head has left READY since START,
then compared with the caps while PRESSING (DEDUCED, notes/assumptions/11.md; unsafe). -/
def useFinger (r : Run) (finger : List (Nat × FingerSample)) (s : State) : State :=
  let position := s.motion.position
  let s := if r.fingersGone then s else { s with profile := binFingers r.map position finger s.profile }
  match s.monitor.phase, s.monitor.limits with
  | .pressing, some lim => if overFingerCap lim.caps r.map finger then endStep .forceCap position false s else s
  | _, _ => s

/-! ## Cell alerts (R38, R39, R112) -/

/-- R39: the effect of an alert's kind on the entry. -/
def alertEffect (kind : Nat) (e : PosEntry) : PosEntry :=
  match kind with
  | 0 => { e with overtemp := true }
  | 1 => { e with overtemp := false }
  | 2 => { e with drift := true }
  | 3 => { e with failed := true }
  | _ => e

/-- R112: a mapped position has become failed: its column is ABSENT, and sensing is lost. -/
def positionFailed (p : Nat) (s : State) : State :=
  if s.monitor.phase ≠ .inactive ∧ p ∈ (s.run.map (·.map)).getD [] then
    sensingLost (s.onRecord (fun r => { r with
      columns := r.columns.map (fun c => if c.position = p then { c with judged := false } else c) }))
  else s

/-- R38, R39, R112: an alert of a good frame is acknowledged and, unless it is a repeat or of a position not present, taken. -/
def takeAlert (s : State) (a : Alert) : State :=
  let s := { s with head := { s.head with acks := s.head.acks ++ [(a.position, a.seq)] } }
  let e := s.head.entry a.position
  if e.status ≠ .present ∨ e.lastSeq = some a.seq then s
  else
    let s := { s with head := s.head.onEntry a.position (fun e =>
      { alertEffect a.kind e with lastAlert := some (a.kind, a.value), lastSeq := some a.seq }) }
    let s := s.raise (.cellAlert a.position a.kind a.value)
    if a.kind = 3 ∧ !e.failed then positionFailed a.position s else s

/-- R35: the alerts of the lanes whose frames passed, in order of lane. -/
def Head.alerts (h : Head) (frames : List LaneFrame) : List Alert :=
  h.lanes.flatMap (fun lane => match h.goodFrame frames lane with
    | some f => f.alerts
    | none => [])

/-- R35, R37: frames are delivered while the head is READY and no lane has reached 8 bad frames. -/
def Head.framing (h : Head) : Bool := decide (h.status = .ready) && h.bad.all (fun n => decide (n < Config.badFrameLimit))

/-- R35: a frame instant is taken with the ram position latched. Samples come first, alerts after them
(DEDUCED, notes/assumptions/11.md; unsafe). -/
def takeFrameInstant (enc : Int) (frames : List LaneFrame) (s : State) : State :=
  let s := s.latch enc
  let alerts := s.head.alerts frames
  let (head, finger) := s.head.takeFrames frames
  let s := { s with head := head }
  let s := match s.run with
    | some r => useFinger r finger s
    | none => s
  alerts.foldl takeAlert s

/-! ## Meanings -/

/-- RAM_SAMPLE (R87): every 100 µs, in every stroke state. -/
def execRamSample (raw enc : Int) (s : State) : Host.Outcome State Fault Refusal := done (takeRamSample raw enc s)

/-- FRAME_INSTANT (R35): in READY; no frames are delivered otherwise, and nothing happens. -/
def execFrameInstant (enc : Int) (frames : List LaneFrame) (s : State) : Host.Outcome State Fault Refusal :=
  if s.head.framing then done (takeFrameInstant enc frames s) else done s

end Sys2Proof.Machine
end

