-- ==== Sys2Proof/Machine/Head.lean ====
section
/-! DEFINITION. The head interface: attach and detach, lane training, enumeration, tare, RETRAIN and HEAD MAP (chapter 2). -/

namespace Sys2Proof.Machine

/-! ## Leaving READY (R22, R42) -/

/-- R42: a tare in progress ends without completing, and its reply, HEAD_NOT_READY, is made. -/
def abortTare (s : State) : State :=
  match s.head.tare with
  | none => s
  | some t => { s with head := { s.head with tare := none } }.refuse .cell t.tag .headNotReady

/-- R36, R45: the consecutive-bad-frame counts at 0. -/
def noBadFrames : List Nat := [0, 0, 0, 0]

/-- R26: a training run begins at an attempt; a departure from READY is reported to the monitor (R22, R111). -/
def beginTraining (attempt : Nat) (s : State) : State :=
  let left := s.head.status
  let s := abortTare s
  let s := { s with head := { s.head with
    status := .training, width := none, lanes := [], runFailed := [], attempt := attempt, stage := .none, answers := [],
    bad := noBadFrames } }
  if left = .ready then leaveReady s else s

/-- R24: the head after a detach. The count of unassigned cells is that of the last roll call still (R44). -/
def Head.detached (h : Head) : Head := { Head.reset with unassigned := h.unassigned }

/-- R24, R111: the head is detached as one event. -/
def detach (s : State) : State :=
  let left := s.head.status
  let s := abortTare s
  let s := { s with head := s.head.detached }.raise (.headDetached left)
  if left = .ready then leaveReady s else s

/-! ## Training (R25) -/

/-- The lanes of either of two sets, in ascending order. -/
def laneUnion (a b : List Nat) : List Nat := [1, 2, 3, 4].filter (fun l => decide (l ∈ a) || decide (l ∈ b))

/-- R25, R22: the head enters NO_LINK; SENSING_DEGRADED is raised with width 0, no lanes in use and the failed-lane set. -/
def enterNoLink (s : State) : State :=
  { s with head := { s.head with
    status := .noLink, width := none, lanes := [], attempt := 0, stage := .none, answers := [] } }.raise
      (.sensingDegraded 0 [] s.head.failedLanes)

/-- R25: the attempt in progress has succeeded. -/
def trainingSuccess (s : State) : State :=
  let w := attemptWidth s.head.attempt
  let lanes := attemptLanes s.head.attempt
  let failed := s.head.runFailed
  let s := { s with head := { s.head with
    status := .enumerating, width := some w, lanes := lanes, failedLanes := failed, attempt := 0,
    stage := .descriptor, answers := [] } }
  if w = .four then s else s.raise (.sensingDegraded (widthLanes w) lanes failed)

/-- R25: the attempt in progress has failed, some of its lanes having passed. The failed-lane set shows the run's failed
lanes as they come (DEDUCED, notes/assumptions/13.md; unsafe). -/
def trainingTimeout (passed : List Nat) (s : State) : State :=
  let failed := laneUnion s.head.runFailed ((attemptLanes s.head.attempt).filter (fun l => decide (l ∉ passed)))
  let h := { s.head with runFailed := failed, failedLanes := failed, attempt := s.head.attempt + 1 }
  if s.head.attempt < 7 then { s with head := h } else enterNoLink { s with head := h }

/-! ## Enumeration (R29 to R32) -/

/-- R29: the descriptor has answered. A head kind outside 1 to 15 fails the enumeration as kind 0 does
(DESIGN CHOICE, notes/assumptions/21.md; unsafe). -/
def descriptorAnswered (kind : Nat) (o : Orientation) (s : State) : State :=
  if between 1 15 kind then
    { s with head := { s.head with kind := some kind, orientation := some o, stage := .rollCall, answers := [] } }
  else enterNoLink s

/-- R30: the answers that claim a position. -/
def claims (answers : List CellAnswer) (p : Nat) : List CellAnswer := answers.filter (fun a => decide (a.position = p))

/-- R30: the answers set aside, each an unassigned cell. -/
def unassignedCells (answers : List CellAnswer) : Nat :=
  (answers.filter (fun a => !between 1 Config.positions a.position)).length

/-- R30, R31: a position's entry after the roll call, from its entry before and the answers that claim it. A position that
becomes conflicting loses its last alert even where its old serial is among the claimants
(DESIGN CHOICE, notes/assumptions/33.md; unsafe). -/
def settle (old : PosEntry) (cs : List CellAnswer) : PosEntry :=
  match cs with
  | [] => PosEntry.blank
  | [c] =>
    if old.status = .present ∧ old.serial = some c.serial then
      { old with cellKind := some c.kind, claimants := none, failed := false, lastSeq := none, latest := none }
    else { PosEntry.blank with status := .present, serial := some c.serial, cellKind := some c.kind }
  | _ :: _ :: _ => { PosEntry.blank with status := .conflicting, claimants := some cs.length }

/-- R30, R31: the position table after the roll call. -/
def Head.rollCall (h : Head) : List PosEntry := allPositions.map (fun p => settle (h.entry p) (claims h.answers p))

/-- The positions of a status. -/
def countStatus (table : List PosEntry) (st : PosStatus) : Nat := (table.filter (fun e => decide (e.status = st))).length

/-- R32: HEAD_ATTACHED with the head's standing. -/
def Head.attachedNotice (h : Head) : Notice :=
  .headAttached (h.kind.getD 0) (h.orientation.getD .normal) (widthCode h.width) h.lanes
    (countStatus h.table .present) (countStatus h.table .conflicting) (countStatus h.table .absent) h.unassigned

/-- R30 to R32: the roll-call window closes, and the head enters READY. -/
def closeRollCall (s : State) : State :=
  let h := { s.head with
    status := .ready, table := s.head.rollCall, unassigned := unassignedCells s.head.answers, enumerated := true,
    stage := .none, answers := [], doneKind := s.head.kind, doneOrientation := s.head.orientation }
  { s with head := h }.raise h.attachedNotice

/-! ## Tare (R40, R41) -/

/-- R40: a tare begins over the positions then present. -/
def Head.beginTare (h : Head) (tag : Nat) : Head :=
  { h with tare := some {
    tag := tag, instants := 0,
    sums := (allPositions.filter (fun p => decide ((h.entry p).status = .present))).map
      (fun p => { position := p, sum := 0, count := 0 }) } }

/-- R40: TARE. -/
def serveTare (l : Link) (tag : Nat) (s : State) : State :=
  if s.head.status ≠ .ready then s.refuse l tag .headNotReady
  else if s.head.tare.isSome then s.refuse l tag .busy
  else if (s.motion.stroke = .idle ∨ s.motion.stroke = .unhomed) ∧ ¬ s.jobRunning then
    { s with head := s.head.beginTare tag }
  else s.refuse l tag .busy

/-- R41, R71: a sum of 64 samples divided by 64, rounded half up. -/
def tareMean (sum : Int) : Int := (sum + 32) / 64

/-- R41: the position delivered all 64 samples. -/
def TareSum.full (u : TareSum) : Bool := decide (u.count = Config.tareSamples)

/-- R41: the head with the completed tare's offsets. -/
def Head.completeTare (h : Head) (t : Tare) : Head :=
  (t.sums.filter TareSum.full).foldl
    (fun h u => h.onEntry u.position (fun e => { e with offset := tareMean u.sum, tared := true, drift := false }))
    { h with tare := none }

/-- R41: the tare completes, and its reply is made. -/
def completeTare (t : Tare) (s : State) : State :=
  { s with head := s.head.completeTare t }.reply .cell t.tag .ok
    [.u8 (t.sums.filter TareSum.full).length, .u8 (t.sums.filter (fun u : TareSum => !u.full)).length]

/-! ## RETRAIN (R43) and HEAD MAP (R44) -/

/-- R27, R29: a run or enumeration that a RETRAIN abandons leaves no failed lanes behind, and the head kind and orientation
are again those of the last enumeration that completed (DEDUCED, notes/assumptions/35.md; unsafe). -/
def Head.abandonRun (h : Head) : Head :=
  if h.status = .training ∨ h.status = .enumerating then
    { h with failedLanes := [], kind := h.doneKind, orientation := h.doneOrientation }
  else h

/-- R43: RETRAIN. A tare's reply comes before RETRAIN's own (DEDUCED, notes/assumptions/24.md; unsafe). A head that is DETACHED
while a job is RUNNING gives HEAD_NOT_READY, in the order of R43's table (DESIGN CHOICE, notes/assumptions/32.md; unsafe). -/
def serveRetrain (l : Link) (tag : Nat) (s : State) : State :=
  if s.head.status = .detached then s.refuse l tag .headNotReady
  else if s.jobRunning then s.refuse l tag .busy
  else (beginTraining 1 { s with head := s.head.abandonRun }).reply l tag .ok []

/-- R33, R44: one position entry with its readiness. The cell kind takes one byte
(DESIGN CHOICE, notes/assumptions/14.md; unsafe). -/
def entryWire (e : PosEntry) (ready : Bool) : List Wire :=
  .u8 (posStatusCode e.status) :: opt32 e.serial ++ opt8 e.cellKind ++ opt8 e.claimants
    ++ [.flag e.failed, .flag e.tared, .s16 e.offset, .flag e.overtemp, .flag e.drift,
        .flag e.lastAlert.isSome, .u8 ((e.lastAlert.map (·.1)).getD 0), .u16 ((e.lastAlert.map (·.2)).getD 0)]
    ++ sampleWire e.latest ++ [.flag ready]

/-- R44: the head fields and the position entries. The width and the head kind take one byte each
(DESIGN CHOICE, notes/assumptions/14.md; unsafe). -/
def headMapWire (h : Head) : List Wire :=
  [.u8 (headCode h.status), .u8 (widthCode h.width), .set h.lanes, .set h.failedLanes]
    ++ opt8 (if h.enumerated then h.kind else none)
    ++ opt8 (if h.enumerated then h.orientation.map orientationCode else none)
    ++ [.flag h.tare.isSome, .u8 h.unassigned] ++ allPositions.flatMap (fun p => entryWire (h.entry p) (h.ready p))

/-- R44: HEAD MAP. -/
def serveHeadMap (l : Link) (tag : Nat) (s : State) : State := s.reply l tag .ok (headMapWire s.head)

/-! ## Meanings of the head's events -/

/-- HEAD_ATTACH (R23): the head-present line has held active for 10 ms; taken while DETACHED. -/
def execHeadAttach (s : State) : Host.Outcome State Fault Refusal :=
  if s.head.status = .detached then done (beginTraining 1 s) else done s

/-- HEAD_DETACH (R24): the head-present line has held inactive for 10 ms; it changes nothing while DETACHED. -/
def execHeadDetach (s : State) (enc : Int := 0) : Host.Outcome State Fault Refusal :=
  let s := s.latch enc
  if s.head.status = .detached then done s else done (detach s)

/-- AUTOMATIC_RETRAIN (R37): in READY, when a lane's count has reached 8. -/
def execAutomaticRetrain (s : State) (enc : Int := 0) : Host.Outcome State Fault Refusal :=
  let s := s.latch enc
  if s.head.status = .ready ∧ ¬ s.head.framing then done (beginTraining (firstAttempt s.head.width) s) else done s

/-- TRAINING_ATTEMPT_SUCCESS (R25): every lane of the attempt in progress has passed. -/
def execTrainingAttemptSuccess (s : State) : Host.Outcome State Fault Refusal :=
  if s.head.status = .training then done (trainingSuccess s) else done s

/-- TRAINING_ATTEMPT_TIMEOUT (R25): 50 ms have passed in the attempt; `passed` lists the lanes that had passed. -/
def execTrainingAttemptTimeout (passed : List Nat) (s : State) : Host.Outcome State Fault Refusal :=
  if s.head.status = .training then done (trainingTimeout passed s) else done s

/-- DESCRIPTOR_ANSWER (R29): while the enumeration awaits the descriptor. -/
def execDescriptorAnswer (kind : Nat) (o : Orientation) (s : State) : Host.Outcome State Fault Refusal :=
  if s.head.status = .enumerating ∧ s.head.stage = .descriptor then done (descriptorAnswered kind o s) else done s

/-- DESCRIPTOR_TIMEOUT (R29): 20 ms have passed without the descriptor's answer. -/
def execDescriptorTimeout (s : State) : Host.Outcome State Fault Refusal :=
  if s.head.status = .enumerating ∧ s.head.stage = .descriptor then done (enterNoLink s) else done s

/-- ROLL_CALL_ANSWER (R30): within the roll-call window; an answer after it is not taken. -/
def execRollCallAnswer (serial position kind : Nat) (s : State) : Host.Outcome State Fault Refusal :=
  if s.head.status = .enumerating ∧ s.head.stage = .rollCall then
    done { s with head := { s.head with
      answers := s.head.answers ++ [{ serial := serial, position := position, kind := kind }] } }
  else done s

/-- ROLL_CALL_CLOSE (R30 to R32): the 30 ms window closes. -/
def execRollCallClose (s : State) : Host.Outcome State Fault Refusal :=
  if s.head.status = .enumerating ∧ s.head.stage = .rollCall then done (closeRollCall s) else done s

/-- TARE_COMPLETE (R41): the 64th frame instant of the tare has passed. -/
def execTareComplete (s : State) : Host.Outcome State Fault Refusal :=
  match s.head.tare with
  | some t => if t.instants = Config.tareSamples then done (completeTare t s) else done s
  | none => done s

end Sys2Proof.Machine
end

