-- ==== Sys2Proof/Machine/Motion.lean ====
section
/-! DEFINITION. The motion block: homing, the outside-program retract, the ends of steps it detects itself, stops, retracts
and the drive lines (chapter 4). -/

namespace Sys2Proof.Machine

/-- The state with the motion block changed. -/
def State.onMotion (s : State) (f : Motion → Motion) : State := { s with motion := f s.motion }

/-- R69: the ram has come to rest at an encoder count: the ramp output is zero. -/
def State.rest (s : State) (enc : Int) : State := (s.latch enc).onMotion (fun m => { m with ramp := .zero })

/-- R74, R75, R84: a position lies within 3 µm of a target. -/
def arrived (position target : Int) : Bool := decide ((position - target).natAbs ≤ Config.arrival)

/-! ## HOME and the course of a homing (R70, R71) -/

/-- R70: the first check of HOME that fails. -/
def homeRefusal (s : State) : Option Status :=
  if ¬ ((s.motion.stroke = .unhomed ∨ s.motion.stroke = .idle) ∧ s.motion.ramp.output = 0) then some .busy
  else if s.jobRunning ∨ s.head.tare.isSome then some .busy
  else if ¬ s.motion.driveReady ∨ s.motion.faultInput then some .busy
  else if s.openSet ≠ [] then some .guardOpen
  else none

/-- R70, R71: the motion block as HOME is taken. With the home switch closed already no speed is commanded, and the homing waits
for rest. -/
def Motion.home (closed : Bool) (m : Motion) : Motion :=
  { m with stroke := .homing, commanded := if closed then 0 else -Config.homingSpeed, ramp := .zero, referenced := false,
           homing := .none, phase := if closed then .settling else .seeking }

/-- R70: HOME. -/
def serveHome (closed : Bool) (l : Link) (tag : Nat) (s : State) : State :=
  match homeRefusal s with
  | some st => s.refuse l tag st
  | none => (s.onMotion (Motion.home closed)).reply l tag .ok []

/-- HOME_SWITCH_CLOSED (R71): seen while the homing seeks the switch. -/
def execHomeSwitchClosed (s : State) : Host.Outcome State Fault Refusal :=
  if s.motion.stroke = .homing ∧ s.motion.phase = .seeking then
    done (s.onMotion (fun m => { m with commanded := 0, ramp := slowRamp Config.slowRate m.ramp, phase := .settling }))
  else done s

/-- HOMING_REST (R71): the ram is at rest after the switch: the rest point is latched and the ram tare begins. -/
def execHomingRest (enc : Int) (s : State) : Host.Outcome State Fault Refusal :=
  if s.motion.stroke = .homing ∧ s.motion.phase = .settling then
    done ((s.rest enc).onMotion (fun m => { m with phase := .taring enc 0 0 }))
  else done s

/-- R71: the motion block as a homing completes. -/
def Motion.homed (rest sum : Int) (m : Motion) : Motion :=
  { m with stroke := .idle, zero := rest, referenced := true, ramOffset := tareMean sum, homing := .homed, phase := .none }

/-- R71: the rest point and the sum of a ram tare that has all its samples. -/
def ramTareDone : HomingPhase → Option (Int × Int)
  | .taring rest sum n => if n = Config.tareSamples then some (rest, sum) else none
  | _ => none

/-- HOMING_COMPLETE (R71): the 64th sample of the ram tare has been taken. -/
def execHomingComplete (s : State) : Host.Outcome State Fault Refusal :=
  match ramTareDone s.motion.phase with
  | some (rest, sum) => if s.motion.stroke = .homing then done (s.onMotion (Motion.homed rest sum)) else done s
  | none => done s

/-- HOMING_TIMEOUT (R71): 45 s in HOMING without the switch seen closed. -/
def execHomingTimeout (s : State) : Host.Outcome State Fault Refusal :=
  if s.motion.stroke = .homing ∧ s.motion.phase = .seeking then done (endHoming .notFound false s) else done s

/-! ## RETRACT (R72) and CLEAR FAULT (R81) -/

/-- R72: the first check of RETRACT that fails. -/
def retractRefusal (s : State) : Option Status :=
  if s.motion.stroke = .unhomed ∨ s.motion.stroke = .faulted then some .notHomed
  else if ¬ (s.motion.stroke = .idle ∧ s.motion.ramp.output = 0) then some .busy
  else if s.openSet ≠ [] then some .guardOpen
  else none

/-- R72: the motion block as a retract begins. -/
def Motion.retract (m : Motion) : Motion :=
  { m with stroke := .retracting, commanded := -Config.retractSpeed, ramp := .zero }

/-- R72: RETRACT. -/
def serveRetract (l : Link) (tag : Nat) (s : State) : State :=
  match retractRefusal s with
  | some st => s.refuse l tag st
  | none =>
    if s.motion.position = 0 then s.reply l tag .ok []
    else (s.onMotion Motion.retract).reply l tag .ok []

/-- R81: CLEAR FAULT. -/
def serveClearFault (l : Link) (tag : Nat) (s : State) : State :=
  if s.motion.stroke = .faulted ∧ s.motion.driveReady ∧ ¬ s.motion.faultInput then
    (s.onMotion (fun m => { m with stroke := .unhomed })).reply l tag .ok []
  else s.refuse l tag .busy

/-! ## The ends of steps (R74, R75, R77 to R79) -/

/-- R74: the target of a MOVE or RETRACT step. -/
def targetOf : StepBody → Option Int
  | .move t _ => some t
  | .retract t _ => some t
  | _ => none

/-- R75: the limit position of a PROBE step. -/
def probeLimit : StepBody → Option Int
  | .probe l _ _ _ => some l
  | _ => none

/-- R74: a MOVE or RETRACT step's ram is at rest within 3 µm of its target. -/
def takeMoveReached (s : State) : State :=
  match s.inHand.bind (fun h => targetOf h.record.body) with
  | some t => if arrived s.motion.position t then
      endStep .reached s.motion.position false (s.onMotion (fun m => { m with ramp := .zero })) else s
  | none => s

/-- MOVE_REACHED (R74). -/
def execMoveReached (enc : Int) (s : State) : Host.Outcome State Fault Refusal := done (takeMoveReached (s.latch enc))

/-- R75: a PROBE step's ram is at rest within 3 µm of its limit position. -/
def takeProbeArrival (s : State) : State :=
  match s.inHand.bind (fun h => probeLimit h.record.body) with
  | some t => if arrived s.motion.position t then
      endStep .noTouch s.motion.position false (s.onMotion (fun m => { m with ramp := .zero })) else s
  | none => s

/-- PROBE_LIMIT_ARRIVAL (R75). -/
def execProbeLimitArrival (enc : Int) (s : State) : Host.Outcome State Fault Refusal :=
  done (takeProbeArrival (s.latch enc))

/-- R77: a DWELL step is in hand. -/
def State.dwelling (s : State) : Bool := (s.inHand.map (fun h => decide (bodyKind h.record.body = .dwell))).getD false

/-- DWELL_ELAPSED (R77): the step's time has passed. -/
def execDwellElapsed (enc : Int) (s : State) : Host.Outcome State Fault Refusal :=
  let s := s.latch enc
  if s.dwelling then done (endStep .elapsed s.motion.position false s) else done s

/-- R78: a stall, in a state that commands a speed. -/
def takeStall (s : State) : State :=
  if s.motion.commanded = 0 then s
  else match s.motion.stroke with
    | .running => interrupt .stall false s
    | .homing => endHoming .stall false s
    | .retracting => beginStop (.cause .stall) Config.slowRate false .idle s
    | .unhomed | .idle | .paused | .stopping | .faulted => s

/-- STALL (R78): the encoder has moved less than 2 µm in 200 ms of commanded motion. -/
def execStall (enc : Int) (s : State) : Host.Outcome State Fault Refusal := done (takeStall (s.latch enc))

/-- R79: the travel limit, with a step in hand. -/
def takeTravelLimit (s : State) : State :=
  if s.inHand.isSome ∧ Config.travelLimit ≤ s.motion.position then endStep .travelLimit s.motion.position false s else s

/-- TRAVEL_LIMIT (R79). -/
def execTravelLimit (enc : Int) (s : State) : Host.Outcome State Fault Refusal := done (takeTravelLimit (s.latch enc))

/-! ## Rest after a stop or a retract (R82 to R84) -/

/-- STOP_AT_REST (R83): the ram has come to rest in STOPPING. -/
def execStopAtRest (enc : Int) (s : State) : Host.Outcome State Fault Refusal :=
  if s.motion.stroke = .stopping then done (takeFollowOn (s.rest enc)) else done (s.latch enc)

/-- R84: a retract is at rest within 3 µm of position 0. -/
def takeRetractReached (s : State) : State :=
  if arrived s.motion.position 0 then
    markRest (s.onMotion (fun m => { m with stroke := .idle, commanded := 0, ramp := .zero }))
  else s

/-- RETRACT_REACHED (R72, R84). -/
def execRetractReached (enc : Int) (s : State) : Host.Outcome State Fault Refusal :=
  if s.motion.stroke = .retracting then done (takeRetractReached (s.latch enc)) else done (s.latch enc)

/-! ## The drive lines (R80, R81) -/

/-- DRIVE_READY_LOST (R80): drive-ready has gone from present to absent. -/
def execDriveReadyLost (enc : Int) (s : State) : Host.Outcome State Fault Refusal :=
  let s := s.latch enc
  if s.motion.driveReady then done (driveFault .readyLost (s.onMotion (fun m => { m with driveReady := false }))) else done s

/-- DRIVE_FAULT_INPUT (R80): the fault input is found active. -/
def execDriveFaultInput (enc : Int) (s : State) : Host.Outcome State Fault Refusal :=
  done (driveFault .faultInput ((s.latch enc).onMotion (fun m => { m with faultInput := true })))

/-- STOP_TIMEOUT (R80): 2,000 ms in STOPPING without rest. -/
def execStopTimeout (enc : Int) (s : State) : Host.Outcome State Fault Refusal :=
  let s := s.latch enc
  if s.motion.stroke = .stopping then done (driveFault .stopTimeout s) else done s

/-- DRIVE_READY_PRESENT (R80): drive-ready has gone from absent to present. -/
def execDriveReadyPresent (s : State) : Host.Outcome State Fault Refusal :=
  done (s.onMotion (fun m => { m with driveReady := true }))

/-- FAULT_INPUT_INACTIVE (R81): the fault input has returned to inactive. -/
def execFaultInputInactive (s : State) : Host.Outcome State Fault Refusal :=
  done (s.onMotion (fun m => { m with faultInput := false }))

/-- R73, R83: the ramp output has fallen to zero; a commanded speed that has waited for it is followed from now on. -/
def Motion.rampEnds (m : Motion) : Motion := { m with ramp := .zero }

/-- R68: the ramp output is falling. -/
def Ramp.isFalling : Ramp → Bool
  | .falling .. => true
  | .following _ => false

/-- RAMP_OUTPUT_ZERO (R73, R83): in RUNNING, PAUSED or IDLE, unless the ram samples have counted it down to zero before. -/
def execRampOutputZero (s : State) : Host.Outcome State Fault Refusal :=
  if s.motion.ramp.isFalling ∧ (s.motion.stroke = .running ∨ s.motion.stroke = .paused ∨ s.motion.stroke = .idle) then
    done (s.onMotion Motion.rampEnds)
  else done s

end Sys2Proof.Machine
end

