-- ==== Sys2Proof/Machine/Links.lean ====
section
/-! DEFINITION. The link unit: IDENT, STATE, MASK and RESTART, the taking of requests and the block each is handed to, the
receiver, and the end of a sent frame (chapter 11). -/

namespace Sys2Proof.Machine

/-! ## IDENT and STATE (R180, R181) -/

/-- R180: the number of a link, in the order R180 lists them: CELL, LINE. -/
def linkCode : Link → Nat
  | .cell => 0
  | .line => 1

/-- R180: IDENT. -/
def serveIdent (l : Link) (tag : Nat) (s : State) : State :=
  s.reply l tag .ok [.text Config.vendorName, .text Config.partName, .u8 Config.designRevision, .u8 (linkCode l)]

/-- R46, R181: the number of the job state, in the order R46 lists them: NONE, PREPARED, RUNNING. -/
def jobStateCode (s : State) : Nat :=
  match s.job with
  | none => 0
  | some j => if j.run.isSome then 2 else 1

/-- R46, R181: the program status, 0 in progress and 1 ended. -/
def programCode (r : Run) : Nat := if r.ended then 1 else 0

/-- R181: the fields of STATE. The width takes one byte (DESIGN CHOICE, notes/assumptions/14.md; unsafe). -/
def stateWire (s : State) : List Wire :=
  [.u8 (strokeCode s.motion.stroke), .s32 s.motion.position, .flag s.motion.referenced,
   .u8 (homingCode s.motion.homing), .u16 s.profile.latestRam, .u8 (jobStateCode s)]
    ++ opt16 (s.run.map (·.press)) ++ opt8 (s.run.map programCode)
    ++ [.u8 (headCode s.head.status), .u8 (widthCode s.head.width), .flag s.head.tare.isSome, .set s.openSet]
    ++ opt8 (s.guards.firstOpened.map markCode) ++ .u8 s.store.records.length :: opt16 s.qual.held ++ [.u16 s.store.next]

/-- R181: STATE. -/
def serveState (l : Link) (tag : Nat) (s : State) : State := s.reply l tag .ok (stateWire s)

/-! ## MASK (R178) -/

/-- R172: a set of notice kinds as the members of a set field. -/
def kindSet (ks : List NoticeKind) : List Nat := ks.map noticeCode

/-- R178: the mask and the pending kinds of a link. -/
def maskWire (k : LinkState) : List Wire :=
  .set (kindSet k.mask) :: .u8 k.notices.length :: k.notices.map (fun p => .u8 (noticeCode (noticeKind p.notice)))

/-- R178: a link under a new mask. -/
def LinkState.setMask (k : LinkState) (mask : List NoticeKind) : LinkState :=
  { k with mask := mask, notices := k.notices.filter (fun p => decide (noticeKind p.notice ∈ mask)) }

/-- R178: MASK. The operations are 0 READ and 1 SET, in the order R178 lists them. -/
def serveMask (l : Link) (tag operation kinds : Nat) (s : State) : State :=
  match operation with
  | 0 => s.reply l tag .ok (maskWire (s.link l))
  | 1 =>
    if kinds < 2 ^ 11 then
      let s := s.onLink l (fun k => k.setMask (kindsOf kinds))
      s.reply l tag .ok (maskWire (s.link l))
    else s.refuse l tag .badField
  | _ => s.refuse l tag .badField

/-! ## RESTART (R182) -/

/-- R182: RESTART is refused while the ram moves or may move. -/
def restartBusy (m : Motion) : Bool :=
  decide (m.stroke = .homing) || decide (m.stroke = .running) || decide (m.stroke = .stopping)
    || decide (m.stroke = .retracting) || decide (m.ramp.output ≠ 0)

/-- R179, R182: a link at RESTART keeps its waiting replies and the chain it is sending. -/
def LinkState.restart (mask : List NoticeKind) (k : LinkState) : LinkState :=
  { LinkState.reset mask with replies := k.replies, tx := k.tx }

/-- R86, R182: the motion block at RESTART. The levels of the drive's lines are the drive's, and stay; the encoder counts
from 0 anew, its last 10 ms with it (DESIGN CHOICE, notes/assumptions/18.md; unsafe). -/
def Motion.restart (m : Motion) : Motion :=
  { Motion.reset with enc := m.enc, zero := m.enc, recent := m.recent, driveReady := m.driveReady, faultInput := m.faultInput }

/-- R182: every block takes the state its chapter gives for power-on. -/
def resetBlocks (s : State) : State :=
  { State.reset with
    pending := s.pending, cell := s.cell.restart NoticeKind.all, line := s.line.restart NoticeKind.lineDefault,
    motion := s.motion.restart }

/-- R182: RESTART. -/
def serveRestart (l : Link) (tag : Nat) (s : State) : State :=
  if restartBusy s.motion then s.refuse l tag .busy else resetBlocks ((abortTare s).reply l tag .ok [])

/-! ## Taking a request (R174) -/

/-- R174: the authority table. -/
def permitted : Link → Nat → Bool
  | .cell, _ => true
  | .line, code => decide (code ∈ [1, 2, 3, 17, 18, 23, 29, 30])

/-- R174: a request past the checks is handed to the block that serves it. `closed` says that the home switch is closed, which
HOME reads (R71). -/
def serve (closed : Bool) : Request → Link → Nat → State → State
  | .ident, l, tag, s => serveIdent l tag s
  | .state, l, tag, s => serveState l tag s
  | .mask op k, l, tag, s => serveMask l tag op k s
  | .restart, l, tag, s => serveRestart l tag s
  | .classPut n e, l, tag, s => serveClassPut l tag n e s
  | .classDrop n, l, tag, s => serveClassDrop l tag n s
  | .classGet n, l, tag, s => serveClassGet l tag n s
  | .cataloguePut t e, l, tag, s => serveCataloguePut l tag t e s
  | .catalogueDrop t, l, tag, s => serveCatalogueDrop l tag t s
  | .catalogueGet t, l, tag, s => serveCatalogueGet l tag t s
  | .tare, l, tag, s => serveTare l tag s
  | .retrain, l, tag, s => serveRetrain l tag s
  | .headMap, l, tag, s => serveHeadMap l tag s
  | .job t f n m, l, tag, s => serveJob l tag t f n m s
  | .step o last, l, tag, s => serveStep l tag o last s
  | .stepFlush, l, tag, s => serveStepFlush l tag s
  | .start, l, tag, s => serveStart l tag s
  | .stop, l, tag, s => serveStop l tag s
  | .home, l, tag, s => serveHome closed l tag s
  | .retract, l, tag, s => serveRetract l tag s
  | .clearFault, l, tag, s => serveClearFault l tag s
  | .profileRead c f n, l, tag, s => serveProfileRead l tag c f n s
  | .resultSummary p i, l, tag, s => serveResultSummary l tag p i s
  | .resultColumn p c, l, tag, s => serveResultColumn l tag p c s
  | .resultPins p c, l, tag, s => serveResultPins l tag p c s
  | .resultRelease p, l, tag, s => serveResultRelease l tag p s
  | .qualify t k v n, l, tag, s => serveQualify l tag t k v n s
  | .qualifyGet t k, l, tag, s => serveQualifyGet l tag t k s
  | .dispose p o c, l, tag, s => serveDispose l tag p o c s
  | .holdTime t, l, tag, s => serveHoldTime l tag t s
  | .guardConfig es, l, tag, s => serveGuardConfig l tag es s

/-- R172: the receiver of a link set. -/
def State.setRx (s : State) (l : Link) (rx : Receiver) : State := s.onLink l (fun k => { k with rx := rx })

/-- R174: a request frame that passed the receiver is taken. `body` is the request its payload holds, absent where the
payload has the wrong size for the code; the receiver has returned to hunting. -/
def takeRequest (l : Link) (tag code : Nat) (body : Option Request) (s : State) (closed : Bool := false) : State :=
  let s := s.setRx l .hunting
  if Config.replyRoom ≤ (s.link l).replies.length then s
  else if !codeKnown code then s.refuse l tag .unknownRequest
  else if !permitted l code then s.refuse l tag .notPermitted
  else match body with
    | none => s.refuse l tag .badLength
    | some r => serve closed r l tag s

/-- R174, check 4: the payload size of a request command is what its fields require. A STEP of unknown kind passes at any
size that holds its kind. -/
def sizeFits (h : Header) : Request → Bool
  | .step (.unknownKind _) _ => decide (1 ≤ h.len)
  | r => decide (h.len = requestSize r)

/-- R174: a request command is a whole frame that passed the receiver (DEDUCED, notes/assumptions/27.md; unsafe). -/
def request (h : Header) (r : Request) (s : State) (closed : Bool := false) : State :=
  takeRequest h.link h.tag (requestCode r) (if sizeFits h r then some r else none) s closed

/-! ## The receiver (R172) -/

/-- R172: the size of a frame after its start byte: length, kind, tag, code, payload and CRC. -/
def frameSize (length : Nat) : Nat := length + 7

/-- R172, R174: a frame's bytes after the start byte are all there. A bad CRC or a kind other than request discards it
(DEDUCED, notes/assumptions/20.md; unsafe). -/
def takeFrame (l : Link) (bs : List Byte) (closed : Bool) (s : State) : State :=
  match bs with
  | len :: kind :: t0 :: t1 :: code :: _ =>
    if bs.drop (len.toNat + 5) = bytes16 (crc16 (bs.take (len.toNat + 5))).toNat ∧ kind = 1 then
      takeRequest l (t0.toNat + 2 ^ 8 * t1.toNat) code.toNat
        (decodeRequest code.toNat ((bs.drop 5).take len.toNat)) s closed
    else s.setRx l .hunting
  | _ => s.setRx l .hunting

/-- R172: a byte reaches the receiver of a link. -/
def receiveByte (l : Link) (b : Byte) (closed : Bool) (s : State) : State :=
  match (s.link l).rx with
  | .hunting => if b = Config.startByte then s.setRx l (.assembling []) else s
  | .assembling bs =>
    let length := (bs.head?.getD b).toNat
    if Config.maxPayload < length then s.setRx l .hunting
    else if bs.length + 1 < frameSize length then s.setRx l (.assembling (bs ++ [b]))
    else takeFrame l (bs ++ [b]) closed s

/-! ## Meanings of the links' events -/

/-- POWER_ON (R2): every block takes its starting state; the commands that wait are the model's, and stay
(DESIGN CHOICE, notes/assumptions/19.md; safe). -/
def execPowerOn (s : State) : Host.Outcome State Fault Refusal := done { State.reset with pending := s.pending }

/-- FRAME_DISCARD (R172): a received frame is discarded, and the receiver hunts. -/
def execFrameDiscard (l : Link) (s : State) : Host.Outcome State Fault Refusal := done (s.setRx l .hunting)

/-- INTER_BYTE_TIMEOUT (R172): more than 5 ms pass between two bytes of a frame, and the receiver hunts. -/
def execInterByteTimeout (l : Link) (s : State) : Host.Outcome State Fault Refusal := done (s.setRx l .hunting)

/-- FRAME_BYTE_RECEIVED (R172). -/
def execFrameByteReceived (l : Link) (b : Byte) (s : State) (closed : Bool := false) : Host.Outcome State Fault Refusal :=
  done (receiveByte l b closed s)

/-- UNKNOWN_REQUEST (R174): a request frame whose code is not in the request table. -/
def execUnknownRequest (h : Header) (code : Nat) (s : State) : Host.Outcome State Fault Refusal :=
  if codeKnown code then done s else done (takeRequest h.link h.tag code none s)

/-- TRANSMIT_FRAME_END (R177): the frame on the line of a link has been sent; the next of its chain follows, or the
arbiter chooses. -/
def execTransmitFrameEnd (l : Link) (s : State) : Host.Outcome State Fault Refusal :=
  done (s.onLink l (fun k => { k with tx := k.tx.tail }))

end Sys2Proof.Machine
end

