-- ==== Sys2Proof/Machine/Requests.lean ====
section
/-! DEFINITION. The meanings of the 31 requests: each is a whole frame, taken by the link unit and served by its block. -/

namespace Sys2Proof.Machine

/-- IDENT (R180). -/
def execIdent (h : Header) (s : State) : Host.Outcome State Fault Refusal :=
  done (request h .ident s)

/-- STATE (R181). -/
def execState (h : Header) (s : State) : Host.Outcome State Fault Refusal :=
  done (request h .state s)

/-- MASK (R178). -/
def execMask (h : Header) (operation kinds : Nat) (s : State) : Host.Outcome State Fault Refusal :=
  done (request h (.mask operation kinds) s)

/-- RESTART (R182). -/
def execRestart (h : Header) (s : State) : Host.Outcome State Fault Refusal :=
  done (request h .restart s)

/-- CLASS PUT (R4). -/
def execClassPut (h : Header) (number : Nat) (entry : ClassEntry) (s : State) : Host.Outcome State Fault Refusal :=
  done (request h (.classPut number entry) s)

/-- CLASS DROP (R6). -/
def execClassDrop (h : Header) (number : Nat) (s : State) : Host.Outcome State Fault Refusal :=
  done (request h (.classDrop number) s)

/-- CLASS GET (R7). -/
def execClassGet (h : Header) (number : Nat) (s : State) : Host.Outcome State Fault Refusal :=
  done (request h (.classGet number) s)

/-- CATALOGUE PUT (R12). -/
def execCataloguePut (h : Header) (typeId : Nat) (entry : TypeEntry) (s : State) : Host.Outcome State Fault Refusal :=
  done (request h (.cataloguePut typeId entry) s)

/-- CATALOGUE DROP (R15). -/
def execCatalogueDrop (h : Header) (typeId : Nat) (s : State) : Host.Outcome State Fault Refusal :=
  done (request h (.catalogueDrop typeId) s)

/-- CATALOGUE GET (R16). -/
def execCatalogueGet (h : Header) (typeId : Nat) (s : State) : Host.Outcome State Fault Refusal :=
  done (request h (.catalogueGet typeId) s)

/-- TARE (R40). -/
def execTare (h : Header) (s : State) : Host.Outcome State Fault Refusal :=
  done (request h .tare s)

/-- RETRAIN (R43). -/
def execRetrain (h : Header) (s : State) : Host.Outcome State Fault Refusal :=
  done (request h .retrain s)

/-- HEAD MAP (R44). -/
def execHeadMap (h : Header) (s : State) : Host.Outcome State Fault Refusal :=
  done (request h .headMap s)

/-- JOB (R47). -/
def execJob (h : Header) (typeId first : Nat) (serial : List Nat) (mode : Nat) (s : State) : Host.Outcome State Fault Refusal :=
  done (request h (.job typeId first serial mode) s)

/-- STEP (R52). -/
def execStep (h : Header) (offer : StepOffer) (last : Nat) (s : State) : Host.Outcome State Fault Refusal :=
  done (request h (.step offer last) s)

/-- STEP FLUSH (R53). -/
def execStepFlush (h : Header) (s : State) : Host.Outcome State Fault Refusal :=
  done (request h .stepFlush s)

/-- START (R54, R55). -/
def execStart (h : Header) (s : State) : Host.Outcome State Fault Refusal :=
  done (request h .start s)

/-- STOP (R62). -/
def execStop (h : Header) (s : State) : Host.Outcome State Fault Refusal :=
  done (request h .stop s)

/-- HOME (R70, R71), with the home switch open or closed. -/
def execHome (h : Header) (s : State) (closed : Bool := false) : Host.Outcome State Fault Refusal :=
  done (request h .home s closed)

/-- RETRACT (R72). -/
def execRetract (h : Header) (s : State) : Host.Outcome State Fault Refusal :=
  done (request h .retract s)

/-- CLEAR FAULT (R81). -/
def execClearFault (h : Header) (s : State) : Host.Outcome State Fault Refusal :=
  done (request h .clearFault s)

/-- PROFILE READ (R103). -/
def execProfileRead (h : Header) (channel first count : Nat) (s : State) : Host.Outcome State Fault Refusal :=
  done (request h (.profileRead channel first count) s)

/-- RESULT SUMMARY (R145, R146). -/
def execResultSummary (h : Header) (press firstOutcome : Nat) (s : State) : Host.Outcome State Fault Refusal :=
  done (request h (.resultSummary press firstOutcome) s)

/-- RESULT COLUMN (R147). -/
def execResultColumn (h : Header) (press column : Nat) (s : State) : Host.Outcome State Fault Refusal :=
  done (request h (.resultColumn press column) s)

/-- RESULT PINS (R148). -/
def execResultPins (h : Header) (press column : Nat) (s : State) : Host.Outcome State Fault Refusal :=
  done (request h (.resultPins press column) s)

/-- RESULT RELEASE (R149). -/
def execResultRelease (h : Header) (press : Nat) (s : State) : Host.Outcome State Fault Refusal :=
  done (request h (.resultRelease press) s)

/-- QUALIFY (R153). -/
def execQualify (h : Header) (typeId headKind level interval : Nat) (s : State) : Host.Outcome State Fault Refusal :=
  done (request h (.qualify typeId headKind level interval) s)

/-- QUALIFY GET (R154). -/
def execQualifyGet (h : Header) (typeId headKind : Nat) (s : State) : Host.Outcome State Fault Refusal :=
  done (request h (.qualifyGet typeId headKind) s)

/-- DISPOSE (R160). -/
def execDispose (h : Header) (press outcome operator : Nat) (s : State) : Host.Outcome State Fault Refusal :=
  done (request h (.dispose press outcome operator) s)

/-- HOLD TIME (R159). -/
def execHoldTime (h : Header) (seconds : Nat) (s : State) : Host.Outcome State Fault Refusal :=
  done (request h (.holdTime seconds) s)

/-- GUARD CONFIG (R170). -/
def execGuardConfig (h : Header) (entries : List Nat) (s : State) : Host.Outcome State Fault Refusal :=
  done (request h (.guardConfig entries) s)

end Sys2Proof.Machine
end

