-- ==== Sys2Proof/Machine/Dispatch.lean ====
section
/-! DEFINITION. One arm per command, each one direct call of its meaning. -/

namespace Sys2Proof.Machine

def exec (i : Instr) (s : State) : Host.Outcome State Fault Refusal :=
  match i with
  | .powerOn => Sys2Proof.Machine.execPowerOn s
  | .frameDiscard link => Sys2Proof.Machine.execFrameDiscard link s
  | .interByteTimeout link => Sys2Proof.Machine.execInterByteTimeout link s
  | .unknownRequest h code => Sys2Proof.Machine.execUnknownRequest h code s
  | .transmitFrameEnd link => Sys2Proof.Machine.execTransmitFrameEnd link s
  | .ident h => Sys2Proof.Machine.execIdent h s
  | .state h => Sys2Proof.Machine.execState h s
  | .mask h operation kinds => Sys2Proof.Machine.execMask h operation kinds s
  | .restart h => Sys2Proof.Machine.execRestart h s
  | .classPut h number entry => Sys2Proof.Machine.execClassPut h number entry s
  | .classDrop h number => Sys2Proof.Machine.execClassDrop h number s
  | .classGet h number => Sys2Proof.Machine.execClassGet h number s
  | .cataloguePut h typeId entry => Sys2Proof.Machine.execCataloguePut h typeId entry s
  | .catalogueDrop h typeId => Sys2Proof.Machine.execCatalogueDrop h typeId s
  | .catalogueGet h typeId => Sys2Proof.Machine.execCatalogueGet h typeId s
  | .tare h => Sys2Proof.Machine.execTare h s
  | .retrain h => Sys2Proof.Machine.execRetrain h s
  | .headMap h => Sys2Proof.Machine.execHeadMap h s
  | .job h typeId first serial mode => Sys2Proof.Machine.execJob h typeId first serial mode s
  | .step h offer last => Sys2Proof.Machine.execStep h offer last s
  | .stepFlush h => Sys2Proof.Machine.execStepFlush h s
  | .start h => Sys2Proof.Machine.execStart h s
  | .handoverEnd enc => Sys2Proof.Machine.execHandoverEnd s enc
  | .stop h => Sys2Proof.Machine.execStop h s
  | .underrunTimeout enc => Sys2Proof.Machine.execUnderrunTimeout s enc
  | .home h closed => Sys2Proof.Machine.execHome h s closed
  | .homeSwitchClosed => Sys2Proof.Machine.execHomeSwitchClosed s
  | .homingRest enc => Sys2Proof.Machine.execHomingRest enc s
  | .homingComplete => Sys2Proof.Machine.execHomingComplete s
  | .homingTimeout => Sys2Proof.Machine.execHomingTimeout s
  | .retract h => Sys2Proof.Machine.execRetract h s
  | .clearFault h => Sys2Proof.Machine.execClearFault h s
  | .ramSample raw enc => Sys2Proof.Machine.execRamSample raw enc s
  | .frameInstant enc frames => Sys2Proof.Machine.execFrameInstant enc frames s
  | .automaticRetrain enc => Sys2Proof.Machine.execAutomaticRetrain s enc
  | .tareComplete => Sys2Proof.Machine.execTareComplete s
  | .headAttach => Sys2Proof.Machine.execHeadAttach s
  | .headDetach enc => Sys2Proof.Machine.execHeadDetach s enc
  | .trainingAttemptSuccess => Sys2Proof.Machine.execTrainingAttemptSuccess s
  | .trainingAttemptTimeout passed => Sys2Proof.Machine.execTrainingAttemptTimeout passed s
  | .descriptorAnswer kind orientation => Sys2Proof.Machine.execDescriptorAnswer kind orientation s
  | .descriptorTimeout => Sys2Proof.Machine.execDescriptorTimeout s
  | .rollCallAnswer serial position kind => Sys2Proof.Machine.execRollCallAnswer serial position kind s
  | .rollCallClose => Sys2Proof.Machine.execRollCallClose s
  | .moveReached enc => Sys2Proof.Machine.execMoveReached enc s
  | .probeLimitArrival enc => Sys2Proof.Machine.execProbeLimitArrival enc s
  | .dwellElapsed enc => Sys2Proof.Machine.execDwellElapsed enc s
  | .stall enc => Sys2Proof.Machine.execStall enc s
  | .travelLimit enc => Sys2Proof.Machine.execTravelLimit enc s
  | .stopAtRest enc => Sys2Proof.Machine.execStopAtRest enc s
  | .retractReached enc => Sys2Proof.Machine.execRetractReached enc s
  | .driveReadyLost enc => Sys2Proof.Machine.execDriveReadyLost enc s
  | .driveFaultInput enc => Sys2Proof.Machine.execDriveFaultInput enc s
  | .stopTimeout enc => Sys2Proof.Machine.execStopTimeout enc s
  | .restReport => Sys2Proof.Machine.execRestReport s
  | .holdOverdue => Sys2Proof.Machine.execHoldOverdue s
  | .profileRead h channel first count => Sys2Proof.Machine.execProfileRead h channel first count s
  | .resultSummary h press firstOutcome => Sys2Proof.Machine.execResultSummary h press firstOutcome s
  | .resultColumn h press column => Sys2Proof.Machine.execResultColumn h press column s
  | .resultPins h press column => Sys2Proof.Machine.execResultPins h press column s
  | .resultRelease h press => Sys2Proof.Machine.execResultRelease h press s
  | .qualify h typeId headKind level interval => Sys2Proof.Machine.execQualify h typeId headKind level interval s
  | .qualifyGet h typeId headKind => Sys2Proof.Machine.execQualifyGet h typeId headKind s
  | .dispose h press outcome operator => Sys2Proof.Machine.execDispose h press outcome operator s
  | .holdTime h seconds => Sys2Proof.Machine.execHoldTime h seconds s
  | .guardConfig h entries => Sys2Proof.Machine.execGuardConfig h entries s
  | .guardInputChange input nowOpen enc => Sys2Proof.Machine.execGuardInputChange input nowOpen s enc
  | .frameByteReceived link byte closed => Sys2Proof.Machine.execFrameByteReceived link byte s closed
  | .driveReadyPresent => Sys2Proof.Machine.execDriveReadyPresent s
  | .faultInputInactive => Sys2Proof.Machine.execFaultInputInactive s
  | .rampOutputZero => Sys2Proof.Machine.execRampOutputZero s

end Sys2Proof.Machine
end

