-- ==== Sys2Proof/Safety.lean ====
section
/-! DEFINITION. What counts as a sound state of the part, and the terms in which the statements speak: a request that is
admitted, an answer, a program that is aborted and one that goes on. -/

namespace Sys2Proof.Machine

/-! ## Requests and answers -/

/-- R174: the link's receiver has handed the frame on and hunts again. -/
def heard (h : Header) (s : State) : State := s.setRx h.link .hunting

/-- R174: a request passes the link unit's four checks: reply room, a known code (every `Request` has one), authority,
payload size. -/
def admitted (h : Header) (r : Request) (s : State) : Bool :=
  decide ((s.link h.link).replies.length < 8) && permitted h.link (requestCode r) && sizeFits h r

/-- R175: the next state of a request that is answered with a status and a payload, its other effects done in `t`. -/
def answered (h : Header) (st : Status) (body : List Wire) (t : State) : Host.Outcome State Fault Refusal :=
  .next (t.reply h.link h.tag st body).arbiters

/-- R175: the next state of a request that is refused with an empty payload: nothing but the reply. -/
def refusedWith (h : Header) (st : Status) (s : State) : Host.Outcome State Fault Refusal := answered h st [] (heard h s)

/-- The other of the two links. -/
def otherLink : Link → Link
  | .cell => .line
  | .line => .cell

/-- Commands taken one after another, as a queue of them is. -/
def runCommands : List Instr → State → Host.Outcome State Fault Refusal
  | [], s => .next s
  | c :: cs, s => match exec c s with
    | .next t => runCommands cs t
    | o => o

/-! ## What an event brings with it -/

/-- R85: an event latches an encoder count; the step in hand adds the change to its travelled distance. -/
def latched (enc : Int) (s : State) : State :=
  { s with
    motion := { s.motion with enc := enc }
    job := s.job.map (fun j => { j with run := j.run.map (fun r => { r with inHand := r.inHand.map (fun h =>
      { h with travelled := h.travelled + (enc - s.motion.enc).natAbs }) }) }) }

/-- R88: the columns of a running press take no further samples. -/
def fingersStop (s : State) : State :=
  { s with job := s.job.map (fun j => { j with run := j.run.map (fun r => { r with fingersGone := true }) }) }

/-- R42: a tare in progress has ended, its reply HEAD_NOT_READY. -/
def tareEnded (s : State) : State :=
  match s.head.tare with
  | none => s
  | some t => { s with head := { s.head with tare := none } }.reply .cell t.tag .headNotReady []

/-- R22, R25: a training run has begun at an attempt. -/
def trainingFrom (attempt : Nat) (s : State) : State :=
  { s with head := { s.head with
    status := .training, width := none, lanes := [], runFailed := [], attempt := attempt, stage := .none, answers := []
    bad := [0, 0, 0, 0] } }

/-- R26: the first training attempt of a width. -/
def attemptOf : Option Width → Nat
  | some .two => 2
  | some .one => 4
  | _ => 1

/-- R24, R44: a head with no tare in progress has been detached, and HEAD_DETACHED raised with the state it left. The count of
unassigned cells is that of the last roll call still. -/
def headGone (s : State) : State :=
  State.raise { s with head :=
    { status := .detached, width := none, lanes := [], failedLanes := [], runFailed := [], attempt := 0, kind := none
      orientation := none, enumerated := false, doneKind := none, doneOrientation := none, stage := .none, answers := []
      unassigned := s.head.unassigned, bad := [0, 0, 0, 0], table := List.replicate 48 PosEntry.blank, tare := none
      acks := [] } } (.headDetached s.head.status)

/-- R87: the value of a raw ram reading. -/
def ramForce (offset raw : Int) : Nat :=
  if raw - offset < 0 then 0 else if 60000 ≤ raw - offset then 60000 else (raw - offset).toNat

/-- R68, R73 to R75: the ramp output once a ram sample with a count has been taken, 100 µs on: following, it has moved by at most
0.2 mm/s toward the commanded speed, or toward zero where the distance left to the target is no more than 2,000 mm/s² need to
stop it; falling, it has lost 0.1 mm/s for each 1,000 mm/s² of its rate, down to zero, from where it follows. That the ramp is
stepped with the ram samples, and where the approach begins, is inferred (notes/assumptions/6.md). -/
def rampSampled (enc : Int) (s : State) : Ramp :=
  match s.motion.ramp with
  | .following v =>
    let position := enc - s.motion.zero
    let near (t : Int) : Bool := decide (400 * (if 0 < s.motion.commanded then t - position else position - t) ≤ v * v)
    let goal : Int := match s.aim with
      | some t => if near t then 0 else s.motion.commanded
      | none => s.motion.commanded
    .following (if v < goal then min goal (v + 2) else max goal (v - 2))
  | .falling rate v =>
    let left := if v < 0 then min 0 (v + (rate / 1000 : Nat)) else max 0 (v - (rate / 1000 : Nat))
    if left = 0 then .following 0 else .falling rate left

/-- R68, R71, R85, R87, R158, R166: a ram sample has been taken, before touch, binning and the ram tests: the count is latched
and remembered for the test of rest, the ramp output has moved on, a ram tare has the raw reading, the peaks are raised while a
job is RUNNING, the value is the latest ram force, and 100 µs have passed of the hold-overdue time and of the open-guard time.
That these are counted in ram samples is the model's choice (notes/assumptions/1.md, 6.md and 7.md). -/
def ramSampled (raw enc : Int) (s : State) : State :=
  let value := ramForce s.motion.ramOffset raw
  { s with
    motion := { s.motion with
      enc := enc, recent := (enc :: s.motion.recent).take 100
      ramp := rampSampled enc s
      phase := match s.motion.phase with
        | .taring rest sum n => if n < 64 then .taring rest (sum + raw) (n + 1) else .taring rest sum n
        | p => p }
    job := s.job.map (fun j => { j with run := j.run.map (fun r => { r with inHand := r.inHand.map (fun h => { h with
      travelled := h.travelled + (enc - s.motion.enc).natAbs, peak := max h.peak value }) }) })
    store := if s.run = none then s.store else { s.store with records := s.store.records.map (fun q =>
      if q.state = .opened then { q with peak := max q.peak value } else q) }
    profile := { s.profile with latestRam := value }
    qual := { s.qual with remaining := s.qual.remaining.map (· - 1) }
    guards := { s.guards with openTicks := if s.openSet = [] then s.guards.openTicks else s.guards.openTicks + 1 } }

/-! ## Steps that end, programs that are aborted and programs that go on -/

/-- R85: the records after the step in hand has ended, and after the program has ended with a cause where it has. -/
def recordsAfter (h : InHand) (c : EndCause) (stop : Int) (programEnd : Option EndCause) (rs : List Record) : List Record :=
  rs.map (fun rec => if rec.state = .opened then
    { rec with
      cause := programEnd.or rec.cause
      outcomes := rec.outcomes ++ [outcome] }
    else rec)
where
  /-- R85: the step's outcome. -/
  outcome : StepOutcome :=
    { index := h.index, kind := bodyKind h.record.body, cause := c, start := h.start, stop := stop,
      travelled := h.travelled, peak := h.peak, speedUsed := h.speedUsed, clamped := h.clamped }

/-- R57: the STEP_DONE notice of a step's end. -/
def stepNotice (r : Run) (h : InHand) (c : EndCause) (stop : Int) : Notice :=
  .stepDone r.press h.index (bodyKind h.record.body) c stop

/-- R98, R101, R102: the profile after a step's end, and after the program's end where it has ended. -/
def profileAfter (h : InHand) (ended : Bool) (p : Profile) : Profile :=
  let p := if bodyKind h.record.body = .press then { p with pressEnd := p.deepest } else p
  if ended then p.close else p

/-- R107: the monitor's phase after a step's end, and after the program's end where it has ended. -/
def phaseAfter (h : InHand) (ended : Bool) (p : Phase) : Phase :=
  if bodyKind h.record.body = .press then .settled else if ended ∧ p = .watching then .settled else p

/-- R82: the stop rate in force when a stop of a rate begins while the ramp output is as given. -/
def rateInForce (rate : Nat) : Ramp → Nat
  | .falling r v => if v = 0 then rate else max r rate
  | .following _ => rate

/-- What a step's end leaves alone: the commands that wait, the catalogue, the head, the qualification unit, the guards. -/
structure EndFrame (s u : State) : Prop where
  pending : u.pending = s.pending
  cat : u.cat = s.cat
  head : u.head = s.head
  qual : u.qual = s.qual
  guards : u.guards = s.guards
  next : u.store.next = s.store.next

/-- R57, R61, R64, R82, R85: the step in hand `h` of the running job's part `r` has ended with an abort cause at a
position, the program has ended with it, and a stop has begun: an enable-drop stop where `drop` says so, a controlled one
otherwise. -/
structure Aborted (drop : Bool) (r : Run) (h : InHand) (c : EndCause) (stop : Int) (s u : State) : Prop where
  records : u.store.records = recordsAfter h c stop (some c) s.store.records
  cell : u.cell = raiseOn (stepNotice r h c stop) s.cell
  line : u.line = raiseOn (stepNotice r h c stop) s.line
  job : u.job = s.job.map (fun j =>
    { j with queue := [], run := some { r with inHand := none, ended := true, underrun := false } })
  motion : u.motion = { s.motion with
    stroke := .stopping, commanded := 0, phase := .none
    ramp := if drop then .zero else slowRamp (stopRate (bodyKind h.record.body)) s.motion.ramp
    stop := some {
      cause := .cause c, dropped := drop, follow := followOf c
      rate := if drop then stopRate (bodyKind h.record.body)
        else rateInForce (stopRate (bodyKind h.record.body)) s.motion.ramp } }
  profile : u.profile = profileAfter h true s.profile
  monitor : u.monitor = { s.monitor with phase := phaseAfter h true s.monitor.phase }
  frame : EndFrame s u

/-- R69: the ram is at rest: the ramp output is zero or enable is off, and the encoder stands within 2 µm of every count
latched with the ram samples of the last 10 ms. That the samples stand for all of that time is the model's choice
(notes/assumptions/7.md). -/
def rests (s : State) : Prop :=
  (s.motion.ramp.output = 0 ∨ s.enable = false) ∧ ∀ p ∈ s.motion.recent, (s.motion.enc - p).natAbs ≤ 2

/-- R59, R61, R64, R82, R83: the PAUSED program of the job `j` has ended with an abort cause. Where the ram moves still, a stop
at 2,000 mm/s² has begun; where it is at rest, the stroke has passed through STOPPING to its follow-on. -/
structure PauseEnded (drop : Bool) (j : Job) (r : Run) (c : EndCause) (s u : State) : Prop where
  records : u.store.records = s.store.records.map (fun rec =>
    if rec.state = .opened then { rec with cause := some c } else rec)
  links : u.cell = s.cell ∧ u.line = s.line
  job : u.job = some { j with
    queue := [], run := some { r with
      ended := true, underrun := false, restMade := decide (r.restMade ∨ u.motion.stroke = .idle) } }
  profile : u.profile = s.profile.close
  monitor : u.monitor = { s.monitor with phase := if s.monitor.phase = .watching then .settled else s.monitor.phase }
  stops : ¬ rests s → u.motion = { s.motion with
    stroke := .stopping, commanded := 0, phase := .none, ramp := if drop then .zero else slowRamp 2000 s.motion.ramp
    stop := some {
      cause := .cause c, dropped := drop, follow := followOf c
      rate := if drop then 2000 else rateInForce 2000 s.motion.ramp } }
  retracts : rests s → followOf c = .retract → s.openSet = [] → s.motion.position ≠ 0 →
    u.motion = { s.motion with stroke := .retracting, commanded := -200, phase := .none, ramp := .zero, stop := none }
  stays : rests s → (followOf c ≠ .retract ∨ s.openSet ≠ [] ∨ s.motion.position = 0) → u.motion = { s.motion with
    stroke := .idle, commanded := 0, phase := .none, stop := none
    ramp := if drop then .zero else slowRamp 2000 s.motion.ramp }
  frame : EndFrame s u

/-- R57, R58, R59, R85: the step in hand `h` of the job `j` has ended normally, and its program goes on: it ends where
the step carried the last flag, hands over the oldest queued step where there is one, and pauses otherwise. -/
structure GoesOn (j : Job) (r : Run) (h : InHand) (c : EndCause) (stop : Int) (s u : State) : Prop where
  records : u.store.records = recordsAfter h c stop
    (if h.record.last then some (if j.pressAccepted then .completed else .noPress) else none) s.store.records
  ended : h.record.last = true →
    u.job = some { j with
      queue := [], run := some { r with inHand := none, ended := true, underrun := false, restMade := true } }
    ∧ u.motion = { s.motion with
        stroke := .idle, commanded := 0, ramp := slowRamp (stopRate (bodyKind h.record.body)) s.motion.ramp }
    ∧ u.monitor = { s.monitor with phase := phaseAfter h true s.monitor.phase }
    ∧ u.cell = raiseOn (stepNotice r h c stop) s.cell ∧ u.line = raiseOn (stepNotice r h c stop) s.line
  nextStep : h.record.last = false → ∀ rec rest, j.queue = rec :: rest →
    u.job = some { j with
      queue := rest
      run := some { r with
        handed := r.handed + 1, inHand := some (takeInHand s.head.width s.motion.position r.handed rec) } }
    ∧ u.motion = { s.motion with
        stroke := .running, commanded := commandOf s.head.width s.motion.position rec.body
        ramp := slowRamp (stopRate (bodyKind h.record.body)) s.motion.ramp }
    ∧ u.monitor = Monitor.handOver { s.monitor with phase := phaseAfter h false s.monitor.phase } rec.body
    ∧ u.cell = raiseOn (stepNotice r h c stop) s.cell ∧ u.line = raiseOn (stepNotice r h c stop) s.line
  pauses : h.record.last = false → j.queue = [] →
    u.job = some { j with run := some { r with inHand := none, underrun := true } }
    ∧ u.motion = { s.motion with
        stroke := .paused, commanded := 0, ramp := slowRamp (stopRate (bodyKind h.record.body)) s.motion.ramp }
    ∧ u.monitor = { s.monitor with phase := phaseAfter h false s.monitor.phase }
    ∧ u.cell = raiseOn (.queueLow r.press r.handed (16 - j.count)) (raiseOn (stepNotice r h c stop) s.cell)
    ∧ u.line = raiseOn (.queueLow r.press r.handed (16 - j.count)) (raiseOn (stepNotice r h c stop) s.line)
  profile : u.profile = profileAfter h h.record.last s.profile
  frame : EndFrame s u

/-! ## Invariants -/

/-- R68: a non-zero speed is commanded only in HOMING, RUNNING and RETRACTING; in these and in PAUSED the open-guard set is
empty; outside UNHOMED and FAULTED drive-ready is present; a step is in hand exactly in RUNNING, and never after the
program's end; a homing is under way only in HOMING, and commands no speed once the switch is seen (R71); the ramp output lies
between zero and the commanded speed that it follows, and falls at one of the two stop rates. -/
structure MotionSound (s : State) : Prop where
  speed : s.motion.commanded ≠ 0 →
    s.motion.stroke = .homing ∨ s.motion.stroke = .running ∨ s.motion.stroke = .retracting
  guards : s.motion.stroke = .homing ∨ s.motion.stroke = .running ∨ s.motion.stroke = .paused
    ∨ s.motion.stroke = .retracting → s.openSet = []
  drive : s.motion.stroke ≠ .unhomed → s.motion.stroke ≠ .faulted → s.motion.driveReady = true
  hand : s.inHand.isSome ↔ s.motion.stroke = .running
  ended : ∀ r, s.run = some r → r.ended = true → r.inHand = none
  course : s.motion.phase ≠ .none → s.motion.stroke = .homing ∧ (s.motion.phase ≠ .seeking → s.motion.commanded = 0)
  follows : ∀ v, s.motion.ramp = .following v → 0 ≤ v ∧ v ≤ s.motion.commanded ∨ s.motion.commanded ≤ v ∧ v ≤ 0
  falls : ∀ rate v, s.motion.ramp = .falling rate v → v ≠ 0 ∧ (rate = 2000 ∨ rate = 20000)

/-- R1, R152, R17: the tables stand in ascending order of key, within their capacities and key ranges; a qualification
entry names a stored type; the job's type is stored. -/
structure TablesSound (s : State) : Prop where
  classes : tabSorted s.cat.classes = true ∧ ∀ e ∈ s.cat.classes, 1 ≤ e.1 ∧ e.1 ≤ 16
  types : tabSorted s.cat.types = true ∧ s.cat.types.length ≤ 64 ∧ ∀ e ∈ s.cat.types, 1 ≤ e.1 ∧ e.1 ≤ 9999
  quals : tabSorted s.qual.table = true ∧ s.qual.table.length ≤ 128
  entries : ∀ e ∈ s.qual.table, 1 ≤ e.1 % 16 ∧ (tabGet s.cat.types (e.1 / 16)).isSome
    ∧ 1 ≤ e.2.interval ∧ e.2.interval ≤ 99 ∧ e.2.count < e.2.interval
  job : ∀ j, s.job = some j → (tabGet s.cat.types j.typeId).isSome

/-- R93, R98, R100: every channel of the profile buffer is in canonical form, and the marks lie in its span. -/
structure ProfileSound (s : State) : Prop where
  channels : ∀ c ∈ s.profile.channels, binsWf c = true
  deepest : ∀ d, s.profile.deepest = some d → d < 800
  leading : ∀ l, s.profile.leading = some l → l < 800

/-- R174, R176: a link's pending notices are one of each kind, of kinds its mask holds, each raised 1 to 255 times. -/
structure NoticesSound (k : LinkState) : Prop where
  distinct : (k.notices.map (fun p => noticeKind p.notice)).Nodup
  masked : ∀ p ∈ k.notices, noticeKind p.notice ∈ k.mask
  counts : ∀ p ∈ k.notices, 1 ≤ p.count ∧ p.count ≤ 255

/-- R174: the reply queues: at most 8 on the line link, and at most 9 on the cell link, a deferred TARE reply included. -/
structure LinksSound (s : State) : Prop where
  cell : NoticesSound s.cell
  line : NoticesSound s.line
  cellReplies : s.cell.replies.length + (if s.head.tare.isSome then 1 else 0) ≤ 9
  lineReplies : s.line.replies.length ≤ 8

/-- R177: a link whose transmitter is idle has nothing waiting. -/
def idleMeansEmpty (k : LinkState) : Prop := k.tx = [] → k.replies = [] ∧ k.notices = []

/-- R137, R138, R157, R158: at most 32 records with distinct press numbers in range; at most one OPEN, and none while no
job is RUNNING; at most one HELD, none while a job is RUNNING, and the held press number names it. -/
structure StoreSound (s : State) : Prop where
  capacity : s.store.records.length ≤ 32
  distinct : (s.store.records.map (·.press)).Nodup
  range : ∀ r ∈ s.store.records, 1 ≤ r.press ∧ r.press ≤ 65535
  next : 1 ≤ s.store.next ∧ s.store.next ≤ 65535
  oneOpen : (s.store.records.filter (fun r => decide (r.state = .opened))).length ≤ 1
  openRuns : (∃ r ∈ s.store.records, r.state = .opened) → s.jobRunning = true
  held : s.qual.held = ((s.store.records.find? (fun r => decide (r.state = .held))).map (·.press))
  oneHeld : (s.store.records.filter (fun r => decide (r.state = .held))).length ≤ 1
  heldStops : (∃ r ∈ s.store.records, r.state = .held) → s.jobRunning = false

/-! ## Invariants of the head, the guards, the job unit and the monitor -/

/-- R30, R31, R33, R35, R41: a position entry holds what its status lets it hold. -/
structure EntrySound (e : PosEntry) : Prop where
  present : e.status = .present ↔ e.serial.isSome = true ∧ e.cellKind.isSome = true
  serial : e.serial.isSome = e.cellKind.isSome
  conflicting : e.status = .conflicting ↔ e.claimants.isSome = true
  bare : e.status ≠ .present → e.failed = false ∧ e.tared = false ∧ e.overtemp = false ∧ e.drift = false
    ∧ e.lastAlert = none ∧ e.lastSeq = none ∧ e.latest = none
  offset : e.tared = false → e.offset = 0
  latest : ∀ v, e.latest = some v → v.value ≤ 20000

/-- R41: a tare in progress: at most 64 instants, one sum for each of its positions, which are present, and no more samples
than instants. -/
structure TareSound (h : Head) (t : Tare) : Prop where
  instants : t.instants ≤ 64
  distinct : (t.sums.map (·.position)).Nodup
  sums : ∀ u ∈ t.sums, (h.entry u.position).status = .present ∧ u.count ≤ t.instants

/-- R22, R24 to R41: the head's tables have their sizes, bad frames are counted in READY alone and on lanes in use, width and
lanes are a row of R25's table and stand in ENUMERATING and READY alone, an attempt is under way in TRAINING and an enumeration
in ENUMERATING, a tare runs in READY alone, and READY knows head kind and orientation (R29). -/
structure HeadSound (h : Head) : Prop where
  table : h.table.length = 48 ∧ ∀ e ∈ h.table, EntrySound e
  bad : h.bad.length = 4 ∧ ∀ n ∈ h.bad, n ≤ 8
  unused : ∀ l, 1 ≤ l → l ≤ 4 → (h.status ≠ .ready ∨ l ∉ h.lanes) → h.bad[l - 1]? = some 0
  failed : ∀ l ∈ h.failedLanes ++ h.runFailed, 1 ≤ l ∧ l ≤ 4
  width : h.width.isSome = true ↔ h.status = .enumerating ∨ h.status = .ready
  lanes : (h.width, h.lanes) ∈ [(none, []), (some .four, [1, 2, 3, 4]), (some .two, [1, 2]), (some .two, [3, 4]),
    (some .one, [1]), (some .one, [2]), (some .one, [3]), (some .one, [4])]
  attempt : h.status = .training → 1 ≤ h.attempt ∧ h.attempt ≤ 7
  stage : h.stage = .none ↔ h.status ≠ .enumerating
  answers : h.stage ≠ .rollCall → h.answers = []
  kinds : ∀ k, h.kind = some k ∨ h.doneKind = some k → 1 ≤ k ∧ k ≤ 15
  named : h.stage = .rollCall ∨ h.status = .ready → h.kind.isSome = true ∧ h.orientation.isSome = true
  done : h.enumerated = h.doneKind.isSome ∧ h.enumerated = h.doneOrientation.isSome
  ready : h.status = .ready → h.enumerated = true ∧ h.doneKind = h.kind ∧ h.doneOrientation = h.orientation
  tare : ∀ t, h.tare = some t → h.status = .ready ∧ TareSound h t

/-- R163, R165: eight inputs; the first-opened mark stands exactly while the open-guard set is not empty; the marks name
inputs. -/
structure GuardsSound (g : Guards) : Prop where
  kinds : g.kinds.length = 8
  states : g.states.length = 8
  first : g.firstOpened.isSome = true ↔ g.openSet ≠ []
  marks : ∀ i, g.firstOpened = some (.input i) ∨ g.lastClosed = some i → 1 ≤ i ∧ i ≤ 8

/-- R46, R50 to R59: a program has at most 16 steps, of which the queue holds those not yet handed over; a step in hand carries
the index of the last hand-over; a program in progress has a step in hand or is PAUSED; PAUSED, its queue is empty and the
underrun timer runs. -/
structure JobSound (s : State) : Prop where
  sizes : ∀ j, s.job = some j → j.queue.length ≤ 16 ∧ j.count ≤ 16
  prepared : ∀ j, s.job = some j → j.run = none → j.queue.length = j.count
  handed : ∀ j r, s.job = some j → j.run = some r → r.ended = false → r.handed + j.queue.length = j.count
  ended : ∀ j r, s.job = some j → j.run = some r → r.ended = true → j.queue = [] ∧ r.inHand = none
  begun : ∀ j, s.job = some j → j.grammar = .closing ∨ j.pressAccepted = true → 1 ≤ j.count
  index : ∀ r h, s.run = some r → r.inHand = some h → h.index + 1 = r.handed
  goes : ∀ r, s.run = some r → r.ended = false → r.inHand.isSome = true ∨ s.motion.stroke = .paused
  paused : s.motion.stroke = .paused → ∃ j r, s.job = some j ∧ j.run = some r ∧ r.ended = false ∧ r.inHand = none
    ∧ r.underrun = true ∧ j.queue = []
  underrun : ∀ r, s.run = some r → r.underrun = true → s.motion.stroke = .paused

/-- R95, R102, R106, R107: the monitor is INACTIVE exactly while no job is RUNNING, WATCHING only before a PRESS step and in a
program in progress, PRESSING exactly while a PRESS step is in hand, and SETTLED once the program has ended; its limits and the
profile are those of the running press, whose profile is complete exactly when the program has ended. -/
structure MonitorSound (s : State) : Prop where
  inactive : s.monitor.phase = .inactive ↔ s.run = none
  limits : s.monitor.limits.map (·.press) = s.run.map (·.press)
  watching : s.monitor.phase = .watching → s.monitor.ramCap = none ∧ ∀ r, s.run = some r → r.ended = false
  pressing : s.monitor.phase = .pressing ↔ ∃ h, s.inHand = some h ∧ bodyKind h.record.body = .press
  cap : s.monitor.phase = .pressing → s.monitor.ramCap.isSome = true
  settled : ∀ r, s.run = some r → r.ended = true → s.monitor.phase = .settled
  seat : s.monitor.seat = s.monitor.knee.map (5 * ·)
  complete : ∀ r, s.run = some r → s.profile.complete = r.ended
  binning : s.profile.binning = true → s.profile.touch.isSome = true ∧ ∃ r, s.run = some r ∧ r.ended = false
  channels : ∀ r, s.run = some r → s.profile.press = some r.press ∧ s.profile.map = r.map
    ∧ s.profile.channels.length = r.map.length + 1

end Sys2Proof.Machine
end

