-- ==== Sys2Proof/Certificates/Slice0/Obligations.lean ====
section
/-! DEFINITION. The statements for the provers. -/

open Sys2Proof Sys2Proof.Machine

/-! ## The step and the reset -/

/-- A step takes the command at the front of the queue; on an empty queue the part idles, which is the model's choice
(notes/assumptions/2.md). -/
def Obligations.StepTakesTheFront : Prop :=
  ∀ s : State, (∀ c rest, s.pending = c :: rest → step s = exec c { s with pending := rest })
    ∧ (s.pending = [] → step s = .next s)

/-- Power-on: every block takes the state its chapter gives, whatever came before (R2, R45, R46, R86, R94, R106, R151,
R152, R159, R162, R164, R179); the waiting commands stay, which is the model's choice (notes/assumptions/19.md). RESTART is
refused BUSY while the ram moves; taken, it answers a tare in progress, answers itself, and resets every block, keeping on
each link the replies that wait and the frames being sent (R182, R42). That the levels of the drive lines, the encoder's count
and the counts of the last 10 ms stay is the model's choice (notes/assumptions/18.md). -/
def Obligations.ResetsBringEveryBlockBack : Prop :=
  (∀ s : State, ∃ t, exec .powerOn s = .next t ∧ t.pending = s.pending
    ∧ t.cat.classes = [] ∧ t.cat.types = []
    ∧ t.head.status = .detached ∧ t.head.width = none ∧ t.head.lanes = [] ∧ t.head.failedLanes = []
    ∧ t.head.kind = none ∧ t.head.orientation = none ∧ t.head.tare = none ∧ t.head.bad = [0, 0, 0, 0]
    ∧ t.head.table = List.replicate 48 PosEntry.blank
    ∧ t.job = none
    ∧ t.motion.stroke = .unhomed ∧ t.motion.commanded = 0 ∧ t.motion.ramp = .zero ∧ t.enable = false
    ∧ t.motion.position = 0 ∧ t.motion.referenced = false ∧ t.motion.ramOffset = 0 ∧ t.motion.homing = .none
    ∧ t.motion.stop = none
    ∧ t.profile.channels = [] ∧ t.profile.press = none ∧ t.profile.complete = false ∧ t.profile.binning = false
    ∧ t.profile.touch = none ∧ t.profile.touchForce = none ∧ t.profile.bases = none ∧ t.profile.deepest = none
    ∧ t.profile.pressEnd = none ∧ t.profile.leading = none
    ∧ t.monitor = { phase := .inactive, limits := none, ramCap := none, knee := none, seat := none }
    ∧ t.store.records = [] ∧ t.store.next = 1
    ∧ t.qual.table = [] ∧ t.qual.held = none ∧ t.qual.timer = .stopped ∧ t.qual.remaining = none
    ∧ t.qual.overdue = false ∧ t.qual.holdTime = 120
    ∧ t.guards.kinds = List.replicate 8 .door ∧ t.guards.states = List.replicate 8 .unsettled
    ∧ t.openSet = [1, 2, 3, 4, 5, 6, 7, 8] ∧ t.guards.firstOpened = some .reset ∧ t.guards.lastClosed = none
    ∧ (∀ l, (t.link l).rx = .hunting ∧ (t.link l).replies = [] ∧ (t.link l).notices = [] ∧ (t.link l).seq = 0)
    ∧ t.cell.mask = NoticeKind.all
    ∧ t.line.mask = [.pressDone, .holdOverdue, .guardOpen, .guardClosed, .ramFault])
  ∧ (∀ (h : Header) (s : State), admitted h .restart s = true →
    ((s.motion.stroke = .homing ∨ s.motion.stroke = .running ∨ s.motion.stroke = .stopping
        ∨ s.motion.stroke = .retracting ∨ s.motion.ramp.output ≠ 0) →
      exec (.restart h) s = refusedWith h .busy s)
    ∧ ((s.motion.stroke = .unhomed ∨ s.motion.stroke = .idle ∨ s.motion.stroke = .paused ∨ s.motion.stroke = .faulted) →
        s.motion.ramp.output = 0 →
      exec (.restart h) s = .next (State.arbiters { State.reset with
        pending := s.pending
        cell := { LinkState.reset NoticeKind.all with
          tx := s.cell.tx
          replies := s.cell.replies
            ++ (s.head.tare.map (fun t => ({ tag := t.tag, status := .headNotReady, body := [] } : Reply))).toList
            ++ [{ tag := h.tag, status := .ok, body := [] }] }
        line := { LinkState.reset [.pressDone, .holdOverdue, .guardOpen, .guardClosed, .ramFault] with
          tx := s.line.tx, replies := s.line.replies }
        motion := { Motion.reset with
          enc := s.motion.enc, zero := s.motion.enc, recent := s.motion.recent, driveReady := s.motion.driveReady
          faultInput := s.motion.faultInput } })))

/-- At reset the part meets every invariant that the statements below carry from step to step. -/
def Obligations.ResetMeetsTheInvariants : Prop :=
  MotionSound State.reset ∧ TablesSound State.reset ∧ ProfileSound State.reset ∧ LinksSound State.reset
    ∧ idleMeansEmpty State.reset.cell ∧ idleMeansEmpty State.reset.line ∧ StoreSound State.reset
    ∧ HeadSound State.reset.head ∧ GuardsSound State.reset.guards ∧ JobSound State.reset ∧ MonitorSound State.reset

/-! ## The links (chapter 11) -/

/-- R174: the link unit's checks on a request frame, in order: with eight replies waiting it is discarded without reply;
a code not in the table, a request the link may not send, and a payload of the wrong size are refused. Nothing else
changes. -/
def Obligations.RequestChecksInOrder : Prop :=
  (∀ (i : Instr) (h : Header) (r : Request) (s : State), i.request? = some (h, r) →
      (8 ≤ (s.link h.link).replies.length → exec i s = .next (heard h s).arbiters)
      ∧ ((s.link h.link).replies.length < 8 → h.link = .line → requestCode r ∉ [1, 2, 3, 17, 18, 29, 23, 30] →
          exec i s = refusedWith h .notPermitted s)
      ∧ ((s.link h.link).replies.length < 8 → (h.link = .cell ∨ requestCode r ∈ [1, 2, 3, 17, 18, 29, 23, 30]) →
          sizeFits h r = false → exec i s = refusedWith h .badLength s))
  ∧ (∀ (h : Header) (code : Nat) (s : State), (code = 0 ∨ 31 < code) →
      ((s.link h.link).replies.length < 8 → exec (.unknownRequest h code) s = refusedWith h .unknownRequest s)
      ∧ (8 ≤ (s.link h.link).replies.length → exec (.unknownRequest h code) s = .next (heard h s).arbiters))

/-- R172: the receiver. Hunting, it takes the start byte alone; assembling, it collects up to the end the length byte
fixes, and hunts again after a length above 240, a bad CRC, a kind other than request, a discard or a timeout. That a frame of
another kind is collected to its last byte and that the CRC travels least significant byte first are inferred
(DEDUCED, notes/assumptions/20.md). -/
def Obligations.ReceiverFramesBytes : Prop :=
  ∀ (l : Link) (b : Byte) (closed : Bool) (bs : List Byte) (s : State),
    ((s.link l).rx = .hunting → b ≠ 0xA5 → exec (.frameByteReceived l b closed) s = .next s.arbiters)
    ∧ ((s.link l).rx = .hunting → b = 0xA5 →
        exec (.frameByteReceived l b closed) s = .next (s.setRx l (.assembling [])).arbiters)
    ∧ ((s.link l).rx = .assembling bs → ∀ n : Byte, (bs ++ [b]).head? = some n →
        (240 < n.toNat → exec (.frameByteReceived l b closed) s = .next (s.setRx l .hunting).arbiters)
        ∧ (n.toNat ≤ 240 → (bs ++ [b]).length < n.toNat + 7 →
            exec (.frameByteReceived l b closed) s = .next (s.setRx l (.assembling (bs ++ [b]))).arbiters)
        ∧ (n.toNat ≤ 240 → (bs ++ [b]).length = n.toNat + 7 →
            ((bs ++ [b]).drop (n.toNat + 5) ≠ bytes16 (crc16 ((bs ++ [b]).take (n.toNat + 5))).toNat
              ∨ (bs ++ [b])[1]? ≠ some 1) →
            exec (.frameByteReceived l b closed) s = .next (s.setRx l .hunting).arbiters))
    ∧ exec (.frameDiscard l) s = .next (s.setRx l .hunting).arbiters
    ∧ exec (.interByteTimeout l) s = .next (s.setRx l .hunting).arbiters

/-- R172, R174: every well-formed request survives its encoding: the payload its fields make decodes to it. The layouts that
R172 leaves open are the model's choice (notes/assumptions/14.md, notes/assumptions/15.md). -/
def Obligations.PayloadDecodesToItsRequest : Prop :=
  ∀ r : Request, r.wellFormed = true → decodeRequest (requestCode r) (encodeRequest r) = some r

/-- R172, R174: the bytes of a request's frame, received one by one on a hunting link, do what the request command does.
The link's transmitters are busy or have nothing waiting (`s.arbiters = s`), and the home switch stands for each byte as it
does for the request, which carries its level by the model's choice (notes/assumptions/34.md). The place of the CRC's bytes,
and that a request command leaves the receiver hunting, are inferred (DEDUCED, notes/assumptions/20.md, notes/assumptions/27.md). -/
def Obligations.FrameBytesDoWhatTheirRequestDoes : Prop :=
  ∀ (i : Instr) (h : Header) (r : Request) (s : State),
    i.request? = some (h, r) → h.wellFormed = true → r.wellFormed = true → h.len = requestSize r →
    (s.link h.link).rx = .hunting → s.arbiters = s →
    runCommands ((wireFrame 1 h.tag (requestCode r) (encodeRequest r)).map
      (.frameByteReceived h.link · i.switchClosed)) s = exec i s

/-- R173, R177: a reply goes out as a chain with its tag and status: every frame but the last is a reply part of 240 bytes,
the last is a reply of at most 240, and the payloads joined are the reply's. At a frame's end the chain goes on; after it the
oldest reply's chain begins; with no reply waiting the oldest pending notice, whose frame takes the sequence number; with
neither the transmitter is idle. The other link's transmitter is busy or has nothing waiting. -/
def Obligations.RepliesGoOutInChains : Prop :=
  (∀ r : Reply,
    (replyFrames r).flatMap (·.payload) = payloadBytes r.body
    ∧ (∀ f ∈ replyFrames r, f.tag = r.tag ∧ f.code = statusCode r.status)
    ∧ ∃ parts last, replyFrames r = parts ++ [last] ∧ last.kind = .reply ∧ last.payload.length ≤ 240
        ∧ ∀ f ∈ parts, f.kind = .replyPart ∧ f.payload.length = 240)
  ∧ (∀ (l : Link) (k : LinkState) (s : State), s.link l = k →
    arbitrate (s.link (otherLink l)) = s.link (otherLink l) →
    (∀ f g rest, k.tx = f :: g :: rest →
      exec (.transmitFrameEnd l) s = .next (s.onLink l (fun _ => { k with tx := g :: rest })))
    ∧ (k.tx.length ≤ 1 →
      (∀ r rs, k.replies = r :: rs →
        exec (.transmitFrameEnd l) s = .next (s.onLink l (fun _ => { k with tx := replyFrames r, replies := rs })))
      ∧ (k.replies = [] → ∀ n ns, k.notices = n :: ns →
        exec (.transmitFrameEnd l) s = .next (s.onLink l (fun _ =>
          { k with tx := [noticeFrame k.seq n], notices := ns, seq := (k.seq + 1) % 65536 })))
      ∧ (k.replies = [] → k.notices = [] →
        exec (.transmitFrameEnd l) s = .next (s.onLink l (fun _ => { k with tx := [] })))))

/-- R176: a raised notice on each link: not entered under a mask without its kind; entered at the end with count 1; or, its
kind being pending, it replaces that entry's payload in its place and its count rises, 255 staying at 255. -/
def Obligations.NoticeIsEnteredOrCoalesced : Prop :=
  ∀ (n : Notice) (s : State),
    s.raise n = { s with cell := raiseOn n s.cell, line := raiseOn n s.line }
    ∧ ∀ k : LinkState,
      (noticeKind n ∉ k.mask → raiseOn n k = k)
      ∧ (noticeKind n ∈ k.mask → (∀ p ∈ k.notices, noticeKind p.notice ≠ noticeKind n) →
          raiseOn n k = { k with notices := k.notices ++ [{ notice := n, count := 1 }] })
      ∧ (noticeKind n ∈ k.mask → ∀ a p b, k.notices = a ++ p :: b → noticeKind p.notice = noticeKind n →
          (∀ q ∈ a, noticeKind q.notice ≠ noticeKind n) →
          raiseOn n k = { k with notices := a ++ { notice := n, count := min 255 (p.count + 1) } :: b })

/-- R178: MASK reads and sets the mask of its own link. R180: IDENT's reply in every state. R181: STATE's reply is a snapshot,
and STATE changes nothing. The widths and numbers that R172 leaves open (the design revision and the link in one byte, the
operations of MASK, the codes of STATE's fields) are the model's choice (notes/assumptions/14.md). -/
def Obligations.MaskIdentAndStateAnswer : Prop :=
  (∀ (h : Header) (op kinds : Nat) (s : State), admitted h (.mask op kinds) s = true →
    let reply := fun k : LinkState => Wire.set (k.mask.map noticeCode) :: Wire.u8 k.notices.length
      :: k.notices.map (fun p => Wire.u8 (noticeCode (noticeKind p.notice)))
    (op = 0 → exec (.mask h op kinds) s = answered h .ok (reply (s.link h.link)) (heard h s))
    ∧ (op = 1 → kinds < 2 ^ 11 →
        ∃ m : List NoticeKind, (∀ k, k ∈ m ↔ kinds.testBit (noticeCode k - 1) = true) ∧ m.Nodup
          ∧ let k' := { s.link h.link with
              rx := .hunting, mask := m, notices := (s.link h.link).notices.filter (fun p => noticeKind p.notice ∈ m) }
            exec (.mask h op kinds) s = answered h .ok (reply k') (s.onLink h.link (fun _ => k')))
    ∧ ((2 ≤ op ∨ op = 1 ∧ 2 ^ 11 ≤ kinds) → exec (.mask h op kinds) s = refusedWith h .badField s))
  ∧ (∀ (h : Header) (s : State), admitted h .ident s = true →
    exec (.ident h) s = answered h .ok
      [Wire.text ("Rencavo".toList.map Char.toNat), Wire.text ("Jendaz 648".toList.map Char.toNat), Wire.u8 3,
       Wire.u8 (match h.link with
        | .cell => 0
        | .line => 1)] (heard h s))
  ∧ (∀ (h : Header) (s : State), admitted h .state s = true →
    exec (.state h) s = answered h .ok
      ([Wire.u8 (strokeCode s.motion.stroke), Wire.s32 s.motion.position, Wire.flag s.motion.referenced,
        Wire.u8 (homingCode s.motion.homing), Wire.u16 s.profile.latestRam,
        Wire.u8 (if s.job = none then 0 else if s.run = none then 1 else 2)]
        ++ opt16 (s.run.map (·.press)) ++ opt8 (s.run.map (fun r => if r.ended then 1 else 0))
        ++ [Wire.u8 (headCode s.head.status), Wire.u8 (widthCode s.head.width), Wire.flag s.head.tare.isSome, Wire.set s.openSet]
        ++ opt8 (s.guards.firstOpened.map markCode)
        ++ [Wire.u8 s.store.records.length] ++ opt16 s.qual.held ++ [Wire.u16 s.store.next]) (heard h s))

/-- R174, R176, R177: in every step the reply queues and the pending-notice maps keep their bounds, and no idle transmitter
stands beside a waiting reply or notice. -/
def Obligations.LinkQueuesStayBounded : Prop :=
  (∀ s t : State, LinksSound s → step s = .next t → LinksSound t)
  ∧ (∀ s t : State, idleMeansEmpty s.cell → idleMeansEmpty s.line → step s = .next t →
      idleMeansEmpty t.cell ∧ idleMeansEmpty t.line)

/-! ## The catalogue (chapter 1) -/

/-- R4, R5, R17: CLASS PUT. Checks 1 to 5 in order with their check reports, the lock while the job's stored type has a pin of the
class, check 6 with the first type that fails, and the entry put in its place. That the number of the failed check takes one byte
is the model's choice (notes/assumptions/14.md). -/
def Obligations.ClassPutChecksAndStores : Prop :=
  ∀ (h : Header) (n : Nat) (e : ClassEntry) (s : State), admitted h (.classPut n e) s = true →
    let c1 := 1 ≤ n ∧ n ≤ 16
    let c2 := e.entryMin ≤ e.entryMax ∧ e.entryMax ≤ 20000
    let c3 := e.holdMin ≤ e.holdMax ∧ e.holdMax ≤ 20000
    let c4 := e.entryMax < e.abort ∧ e.abort ≤ 20000
    let c5 := 50 ≤ e.engage ∧ e.engage ≤ 1000 ∧ e.engage % 5 = 0
    let report := fun (k t : Nat) => answered h .badField [.u8 k, .u16 t] (heard h s)
    let names := fun t : TypeEntry => ∃ c, 1 ≤ c ∧ c ≤ t.cols ∧ ∃ q ∈ columnPins t c, q.cls = n
    let locked := ∃ j t, s.job = some j ∧ tabGet s.cat.types j.typeId = some t ∧ names t
    let longest := fun (t : TypeEntry) (r : Nat) =>
      maxOf ((((List.range' 1 t.cols).flatMap (columnPins t)).filter (fun q => q.rank = r)).map
        (fun q => ((tabGet (tabPut s.cat.classes n e) q.cls).map (·.engage)).getD 0))
    let failing := s.cat.types.find? (fun t => namesClass t.2 n && (List.range' 1 t.2.ranks).any (fun r =>
      decide (t.2.seat - t.2.tol < onsetOf t.2 r + longest t.2 r)))
    (∀ t : TypeEntry, namesClass t n = true ↔ names t)
    ∧ (¬ c1 → exec (.classPut h n e) s = report 1 0)
    ∧ (c1 → ¬ c2 → exec (.classPut h n e) s = report 2 0)
    ∧ (c1 → c2 → ¬ c3 → exec (.classPut h n e) s = report 3 0)
    ∧ (c1 → c2 → c3 → ¬ c4 → exec (.classPut h n e) s = report 4 0)
    ∧ (c1 → c2 → c3 → c4 → ¬ c5 → exec (.classPut h n e) s = report 5 0)
    ∧ (c1 → c2 → c3 → c4 → c5 →
        (locked → exec (.classPut h n e) s = refusedWith h .inUse s)
        ∧ (¬ locked → ∀ t, failing = some t → exec (.classPut h n e) s = report 6 t.1)
        ∧ (¬ locked → failing = none →
            exec (.classPut h n e) s = answered h .ok
              [.u8 (s.cat.types.filter (fun t => namesClass t.2 n)).length]
              { heard h s with cat := { s.cat with classes := tabPut s.cat.classes n e } }))

/-- R6: CLASS DROP. A refusal IN_USE carries the lowest type id that names the class. -/
def Obligations.ClassDropVacatesThePlace : Prop :=
  ∀ (h : Header) (n : Nat) (s : State), admitted h (.classDrop n) s = true → tabSorted s.cat.types = true →
    (n = 0 ∨ 16 < n → exec (.classDrop h n) s = refusedWith h .badField s)
    ∧ (1 ≤ n → n ≤ 16 → tabGet s.cat.classes n = none → exec (.classDrop h n) s = refusedWith h .notFound s)
    ∧ (1 ≤ n → n ≤ 16 → tabGet s.cat.classes n ≠ none → ∀ t ∈ s.cat.types, namesClass t.2 n = true →
        (∀ u ∈ s.cat.types, namesClass u.2 n = true → t.1 ≤ u.1) →
        exec (.classDrop h n) s = answered h .inUse [.u16 t.1] (heard h s))
    ∧ (1 ≤ n → n ≤ 16 → tabGet s.cat.classes n ≠ none → (∀ t ∈ s.cat.types, namesClass t.2 n = false) →
        ∃ classes, tabGet classes n = none ∧ (∀ k, k ≠ n → tabGet classes k = tabGet s.cat.classes k)
          ∧ exec (.classDrop h n) s = answered h .ok [] { heard h s with cat := { s.cat with classes := classes } })

/-- R8 to R13: the eleven checks of CATALOGUE PUT on an entry that a frame can carry, in R12's order: the first that fails is
reported with the first offending item R13 names, and an entry that meets every condition passes. That check 7 names no item
where P is above 8 alone is the model's choice (notes/assumptions/15.md). -/
def Obligations.CatalogueChecksReportTheFirstFault : Prop :=
  ∀ (classes : List (Nat × ClassEntry)) (id : Nat) (e : TypeEntry), e.wellFormed = true →
    let first := fun (bad : Nat → Prop) (n x : Nat) => 1 ≤ x ∧ x ≤ n ∧ bad x ∧ ∀ y, 1 ≤ y → y < x → ¬ bad y
    let clean := fun (bad : Nat → Prop) (n : Nat) => ∀ x, 1 ≤ x → x ≤ n → ¬ bad x
    let first2 := fun (bad : Nat → Nat → Prop) (m n x y : Nat) => 1 ≤ x ∧ x ≤ m ∧ 1 ≤ y ∧ y ≤ n ∧ bad x y
      ∧ ∀ x' y', 1 ≤ x' → x' ≤ m → 1 ≤ y' → y' ≤ n → bad x' y' → x < x' ∨ x = x' ∧ y ≤ y'
    let clean2 := fun (bad : Nat → Nat → Prop) (m n : Nat) => ∀ x y, 1 ≤ x → x ≤ m → 1 ≤ y → y ≤ n → ¬ bad x y
    let onset := fun r => onsetOf e r % 5 ≠ 0 ∨ 2 ≤ r ∧ onsetOf e r < onsetOf e (r - 1) + 100
    let pattern := fun j => e.assign.getD (j - 1) 0
    let astray := fun j => pattern j = 0 ∨ e.patterns.length < pattern j
    let unused := fun p => ∀ j, 1 ≤ j → j ≤ e.cols → pattern j ≠ p
    let badCell := fun p i => ∃ cells c, e.patterns[p - 1]? = some cells ∧ cells[i - 1]? = some (some c)
      ∧ (c.rank = 0 ∨ e.ranks < c.rank ∨ tabGet classes c.cls = none)
    let mixed := fun j r => ∃ c ∈ columnPins e j, ∃ c' ∈ columnPins e j, c.rank = r ∧ c'.rank = r ∧ c.cls ≠ c'.cls
    let bare := fun r => ∀ c ∈ gridPins e, c.rank ≠ r
    let longest := fun r => maxOf (((gridPins e).filter (fun q => q.rank = r)).map
      (fun q => ((tabGet classes q.cls).map (·.engage)).getD 0))
    let deep := fun r => e.seat - e.tol < onsetOf e r + longest r
    let report := fun k p c i r => typeCheck classes id e = some ⟨k, p, c, i, r⟩
    let ok1 := 1 ≤ id ∧ id ≤ 9999
    let ok2 := ok1 ∧ 1 ≤ e.name.length ∧ e.name.length ≤ 16 ∧ ∀ c ∈ e.name, 32 ≤ c ∧ c ≤ 126
    let ok3 := ok2 ∧ 1 ≤ e.cols ∧ e.cols ≤ 48 ∧ 1 ≤ e.rows ∧ e.rows ≤ 8 ∧ 1 ≤ e.ranks ∧ e.ranks ≤ 4
    let ok4 := ok3 ∧ clean onset e.ranks
    let ok5 := ok4 ∧ 500 ≤ e.seat ∧ e.seat ≤ 3800 ∧ 20 ≤ e.tol ∧ e.tol ≤ 300 ∧ e.seat + e.tol + 50 ≤ 3995
    let ok6 := ok5 ∧ 1 ≤ e.slope ∧ e.slope ≤ 200 ∧ 20 ≤ e.touch ∧ e.touch ≤ 500
    let ok7 := ok6 ∧ clean astray e.cols ∧ clean unused e.patterns.length ∧ e.patterns.length ≤ 8
    let ok8 := ok7 ∧ clean2 badCell e.patterns.length e.rows
    let ok9 := ok8 ∧ clean2 mixed e.cols e.ranks
    let ok10 := ok9 ∧ clean bare e.ranks
    let ok11 := ok10 ∧ clean deep e.ranks
    (¬ ok1 → report 1 0 0 0 0) ∧ (ok1 → ¬ ok2 → report 2 0 0 0 0) ∧ (ok2 → ¬ ok3 → report 3 0 0 0 0)
    ∧ (ok3 → ∀ r, first onset e.ranks r → report 4 0 0 0 r)
    ∧ (ok4 → ¬ ok5 → report 5 0 0 0 0) ∧ (ok5 → ¬ ok6 → report 6 0 0 0 0)
    ∧ (ok6 → ∀ j, first astray e.cols j → report 7 0 j 0 0)
    ∧ (ok6 → clean astray e.cols → ∀ p, first unused e.patterns.length p → report 7 p 0 0 0)
    ∧ (ok6 → clean astray e.cols → clean unused e.patterns.length → 8 < e.patterns.length → report 7 0 0 0 0)
    ∧ (ok7 → ∀ p i, first2 badCell e.patterns.length e.rows p i → report 8 p 0 i 0)
    ∧ (ok8 → ∀ j r, first2 mixed e.cols e.ranks j r → report 9 0 j 0 r)
    ∧ (ok9 → ∀ r, first bare e.ranks r → report 10 0 0 0 r)
    ∧ (ok10 → ∀ r, first deep e.ranks r → report 11 0 0 0 r)
    ∧ (ok11 → typeCheck classes id e = none)

/-- R13 to R15: CATALOGUE PUT reports the check that fails, then refuses IN_USE and FULL, then stores; CATALOGUE DROP
removes the type and its qualification entries. Under the table's order the stored entry is the one read back, and every
other entry is as it was. That the numbers of a check report take one byte each is the model's choice
(notes/assumptions/14.md). -/
def Obligations.CatalogueEditsTheTypeTable : Prop :=
  ∀ (h : Header) (id : Nat) (e : TypeEntry) (s : State),
    (admitted h (.cataloguePut id e) s = true →
      (∀ r, typeCheck s.cat.classes id e = some r → exec (.cataloguePut h id e) s = answered h .badField
        [.u8 r.check, .u8 r.pattern, .u8 r.column, .u8 r.row, .u8 r.rank] (heard h s))
      ∧ (typeCheck s.cat.classes id e = none →
        (s.job.map (·.typeId) = some id → exec (.cataloguePut h id e) s = refusedWith h .inUse s)
        ∧ (s.job.map (·.typeId) ≠ some id → tabGet s.cat.types id = none → 64 ≤ s.cat.types.length →
            exec (.cataloguePut h id e) s = refusedWith h .full s)
        ∧ (s.job.map (·.typeId) ≠ some id → (tabGet s.cat.types id ≠ none ∨ s.cat.types.length < 64) →
            ∃ types, tabGet types id = some e ∧ (∀ k, k ≠ id → tabGet types k = tabGet s.cat.types k)
              ∧ (tabSorted s.cat.types = true → tabSorted types = true
                  ∧ types.length = s.cat.types.length + (if tabGet s.cat.types id = none then 1 else 0))
              ∧ exec (.cataloguePut h id e) s = answered h .ok [.u8 types.length]
                { heard h s with cat := { s.cat with types := types } })))
    ∧ (admitted h (.catalogueDrop id) s = true →
      (id = 0 ∨ 9999 < id → exec (.catalogueDrop h id) s = refusedWith h .badField s)
      ∧ (1 ≤ id → id ≤ 9999 →
        (tabGet s.cat.types id = none → exec (.catalogueDrop h id) s = refusedWith h .notFound s)
        ∧ (tabGet s.cat.types id ≠ none → s.job.map (·.typeId) = some id →
            exec (.catalogueDrop h id) s = refusedWith h .inUse s)
        ∧ (tabGet s.cat.types id ≠ none → s.job.map (·.typeId) ≠ some id →
            exec (.catalogueDrop h id) s = answered h .ok
              [.u8 (s.qual.table.filter (fun q => q.1 / 16 = id)).length]
              { heard h s with
                cat := { s.cat with types := s.cat.types.filter (fun t => t.1 ≠ id) }
                qual := { s.qual with table := s.qual.table.filter (fun q => q.1 / 16 ≠ id) } })))

/-- R7, R16, R17, R19: CLASS GET and CATALOGUE GET answer the entry, the directory or a refusal, and change nothing. The four-byte
engage length and seat tolerance, the two-byte slope threshold, the one-byte pattern numbers and the counts of the type entry's
lists are the model's choice (notes/assumptions/14.md, notes/assumptions/15.md). -/
def Obligations.CatalogueReadsChangeNothing : Prop :=
  ∀ (h : Header) (n : Nat) (s : State),
    (admitted h (.classGet n) s = true →
      (n = 0 → exec (.classGet h n) s = answered h .ok (Wire.u8 s.cat.classes.length :: s.cat.classes.flatMap (fun c =>
        [Wire.u8 c.1, Wire.u8 (s.cat.types.filter (fun t => namesClass t.2 c.1)).length])) (heard h s))
      ∧ (16 < n → exec (.classGet h n) s = refusedWith h .badField s)
      ∧ (1 ≤ n → n ≤ 16 → tabGet s.cat.classes n = none → exec (.classGet h n) s = refusedWith h .notFound s)
      ∧ (1 ≤ n → n ≤ 16 → ∀ e used, tabGet s.cat.classes n = some e →
          (used = true ↔ ∃ j t c, s.job = some j ∧ tabGet s.cat.types j.typeId = some t ∧ 1 ≤ c ∧ c ≤ t.cols
            ∧ ∃ q ∈ columnPins t c, q.cls = n) →
          exec (.classGet h n) s = answered h .ok
          [Wire.u8 n, Wire.u16 e.entryMin, Wire.u16 e.entryMax, Wire.u16 e.holdMin, Wire.u16 e.holdMax, Wire.u16 e.abort, Wire.u32 e.engage,
           Wire.u8 (s.cat.types.filter (fun t => namesClass t.2 n)).length, Wire.flag used] (heard h s)))
    ∧ (admitted h (.catalogueGet n) s = true →
      (n = 0 → exec (.catalogueGet h n) s = answered h .ok
        (Wire.u8 s.cat.types.length :: s.cat.types.map (fun t => Wire.u16 t.1) ++ [Wire.u16 ((s.job.map (·.typeId)).getD 0)])
        (heard h s))
      ∧ (9999 < n → exec (.catalogueGet h n) s = refusedWith h .badField s)
      ∧ (1 ≤ n → n ≤ 9999 → tabGet s.cat.types n = none → exec (.catalogueGet h n) s = refusedWith h .notFound s)
      ∧ (1 ≤ n → n ≤ 9999 → ∀ e, tabGet s.cat.types n = some e → exec (.catalogueGet h n) s = answered h .ok
          ([Wire.u16 n, Wire.text e.name, Wire.u8 e.cols, Wire.u8 e.rows, Wire.u8 e.ranks] ++ e.onsets.map Wire.u32
            ++ [Wire.u32 e.seat, Wire.u32 e.tol, Wire.u16 e.slope, Wire.u16 e.touch, Wire.u8 e.patterns.length]
            ++ e.patterns.flatMap (fun cells => cells.map (fun c => Wire.u8 (match c with
              | none => 0
              | some pin => 16 * (pin.rank - 1) + pin.cls)))
            ++ e.assign.map Wire.u8
            ++ [Wire.u16 (gridPins e).length,
              Wire.u32 (maxOf ((List.range' 1 e.ranks).map (fun r => onsetOf e r
                + maxOf (((gridPins e).filter (fun q => q.rank = r)).map
                    (fun q => ((tabGet s.cat.classes q.cls).map (·.engage)).getD 0))))),
              Wire.u32 (e.seat - e.tol), Wire.u32 (e.seat + e.tol), Wire.u32 (e.seat + e.tol + 50),
              Wire.flag (s.job.map (·.typeId) = some n)]) (heard h s)))

/-- R1, R17, R152: the tables' order, capacities and key ranges, the lock on the job's type, and the qualification entries
naming stored types, hold in every step. -/
def Obligations.TablesStaySound : Prop :=
  ∀ s t : State, TablesSound s → step s = .next t → TablesSound t

/-! ## The sensing head (chapter 2) -/

/-- R22 to R24, R26, R29, R37, R42, R43: a training run begins on an attach, on an automatic retrain at the first attempt of
the width in effect, and on RETRAIN. A detach gives the head its empty form. A tare in progress ends first, its reply
HEAD_NOT_READY, before RETRAIN's own OK (DEDUCED, notes/assumptions/24.md). A departure from READY stops the columns' samples
(R88); the monitor is INACTIVE or SETTLED here, so the press goes on, and AbortsEndTheProgram and PausedProgramsEnd state the
other phases. RETRAIN abandons a run or enumeration: its failed lanes are cleared, and the head kind and orientation of the
last enumeration that completed return (notes/assumptions/13.md, notes/assumptions/35.md). DETACHED with a job RUNNING it is
refused HEAD_NOT_READY, which is the model's choice (notes/assumptions/32.md). -/
def Obligations.HeadComesAndGoes : Prop :=
  ∀ (h : Header) (enc : Int) (s : State),
    let left := fun u : State => if s.head.status = .ready then fingersStop u else u
    (s.head.status = .detached → exec .headAttach s = .next (trainingFrom 1 (tareEnded s)).arbiters)
    ∧ (s.head.status ≠ .detached → exec .headAttach s = .next s.arbiters)
    ∧ (s.head.status = .ready → (∃ n ∈ s.head.bad, 8 ≤ n) → s.monitor.phase ≠ .watching → s.monitor.phase ≠ .pressing →
        exec (.automaticRetrain enc) s = .next
          (fingersStop (trainingFrom (attemptOf s.head.width) (tareEnded (latched enc s)))).arbiters)
    ∧ ((s.head.status ≠ .ready ∨ ∀ n ∈ s.head.bad, n < 8) →
        exec (.automaticRetrain enc) s = .next (latched enc s).arbiters)
    ∧ (s.head.status = .detached → exec (.headDetach enc) s = .next (latched enc s).arbiters)
    ∧ (s.head.status ≠ .detached → s.monitor.phase ≠ .watching → s.monitor.phase ≠ .pressing →
        exec (.headDetach enc) s = .next (left (headGone (tareEnded (latched enc s)))).arbiters)
    ∧ (admitted h .retrain s = true →
      (s.head.status = .detached → exec (.retrain h) s = refusedWith h .headNotReady s)
      ∧ (s.head.status ≠ .detached → s.run ≠ none → exec (.retrain h) s = refusedWith h .busy s)
      ∧ (s.run = none → s.monitor.phase = .inactive →
        ((s.head.status = .training ∨ s.head.status = .enumerating) →
          exec (.retrain h) s = answered h .ok [] (trainingFrom 1 (tareEnded { heard h s with head := { s.head with
            failedLanes := [], kind := s.head.doneKind, orientation := s.head.doneOrientation } })))
        ∧ ((s.head.status = .ready ∨ s.head.status = .noLink) →
          exec (.retrain h) s = answered h .ok [] (left (trainingFrom 1 (tareEnded (heard h s)))))))

/-- R25: the table of training attempts: a success sets width, lanes in use and failed-lane set and goes on to
enumeration; a failure goes on to the next attempt, the seventh to NO_LINK. The failed-lane set shows the lanes of the run
as they fail, which is inferred (notes/assumptions/13.md). R29, R30: the descriptor's answer is recorded and opens the roll
call, whose answers are kept; a descriptor that answers kind 0, or does not answer, fails the enumeration, and head kind and
orientation stay. -/
def Obligations.HeadTrainsAndEnumerates : Prop :=
  (∀ (a : Nat) (w : Width) (lanes passed : List Nat) (s : State),
      (a, w, lanes) ∈ [(1, .four, [1, 2, 3, 4]), (2, .two, [1, 2]), (3, .two, [3, 4]), (4, .one, [1]), (5, .one, [2]),
        (6, .one, [3]), (7, .one, [4])] →
      s.head.status = .training → s.head.attempt = a →
      let won : State := { s with head := { s.head with
        status := .enumerating, width := some w, lanes := lanes, failedLanes := s.head.runFailed, attempt := 0
        stage := .descriptor, answers := [] } }
      (exec .trainingAttemptSuccess s = .next (State.arbiters (if a = 1 then won
        else won.raise (.sensingDegraded lanes.length lanes s.head.runFailed))))
      ∧ ∃ failed : List Nat,
        (∀ l, l ∈ failed ↔ (1 ≤ l ∧ l ≤ 4 ∧ (l ∈ s.head.runFailed ∨ (l ∈ lanes ∧ l ∉ passed))))
        ∧ (a < 7 → exec (.trainingAttemptTimeout passed) s = .next (State.arbiters { s with head := { s.head with
            runFailed := failed, failedLanes := failed, attempt := a + 1 } }))
        ∧ (a = 7 → exec (.trainingAttemptTimeout passed) s = .next (State.arbiters (State.raise
            { s with head := { s.head with
              status := .noLink, width := none, lanes := [], runFailed := failed, failedLanes := failed, attempt := 0
              stage := .none, answers := [] } } (.sensingDegraded 0 [] failed)))))
  ∧ (∀ (k serial position kind : Nat) (o : Orientation) (s : State), s.head.status = .enumerating →
      let failed : State := State.raise { s with head := { s.head with
        status := .noLink, width := none, lanes := [], attempt := 0, stage := .none, answers := [] } }
        (.sensingDegraded 0 [] s.head.failedLanes)
      (s.head.stage = .descriptor →
        (1 ≤ k → k ≤ 15 → exec (.descriptorAnswer k o) s = .next (State.arbiters { s with head := { s.head with
          kind := some k, orientation := some o, stage := .rollCall, answers := [] } }))
        ∧ exec (.descriptorAnswer 0 o) s = .next failed.arbiters
        ∧ exec .descriptorTimeout s = .next failed.arbiters)
      ∧ (s.head.stage = .rollCall → exec (.rollCallAnswer serial position kind) s = .next (State.arbiters
          { s with head := { s.head with
            answers := s.head.answers ++ [{ serial := serial, position := position, kind := kind }] } })))

/-- R29 to R32: the roll call settles every position from the answers that claim it and its entry before, counts the cells
set aside, and brings the head to READY with HEAD_ATTACHED; the enumeration has completed with its head kind and orientation.
That a position which becomes conflicting loses its last alert is the model's choice (notes/assumptions/33.md). -/
def Obligations.RollCallSettlesThePositions : Prop :=
  ∀ s : State, s.head.status = .enumerating → s.head.stage = .rollCall → ∃ table : List PosEntry,
    table.length = 48
    ∧ (∀ p, 1 ≤ p → p ≤ 48 →
        let old := s.head.entry p
        let claims := s.head.answers.filter (fun a => a.position = p)
        (claims = [] → table[p - 1]? = some PosEntry.blank)
        ∧ (2 ≤ claims.length →
            table[p - 1]? = some { PosEntry.blank with status := .conflicting, claimants := some claims.length })
        ∧ (∀ a, claims = [a] → ¬ (old.status = .present ∧ old.serial = some a.serial) →
            table[p - 1]? = some
              { PosEntry.blank with status := .present, serial := some a.serial, cellKind := some a.kind })
        ∧ (∀ a, claims = [a] → old.status = .present → old.serial = some a.serial →
            table[p - 1]? = some
              { old with cellKind := some a.kind, claimants := none, failed := false, lastSeq := none, latest := none }))
    ∧ let unassigned := (s.head.answers.filter (fun a => a.position = 0 ∨ 48 < a.position)).length
      let count := fun st : PosStatus => (table.filter (fun e => e.status = st)).length
      exec .rollCallClose s = .next (State.arbiters (State.raise { s with head := { s.head with
        status := .ready, table := table, unassigned := unassigned, enumerated := true, stage := .none, answers := []
        doneKind := s.head.kind, doneOrientation := s.head.orientation } }
        (.headAttached (s.head.kind.getD 0) (s.head.orientation.getD .normal) (widthCode s.head.width) s.head.lanes
          (count .present) (count .conflicting) (count .absent) unassigned)))

/-- R40, R41: TARE begins over the positions then present, its reply deferred, or is refused. R41: at the 64th frame instant a
tare gives every position with 64 samples its offset, floor((sum + 32) / 64), marks it tared and clears its DRIFT; the rest
stay as they were; the reply counts both. -/
def Obligations.TareStoresTheOffsets : Prop :=
  (∀ (h : Header) (s : State), admitted h .tare s = true →
      (s.head.status ≠ .ready → exec (.tare h) s = refusedWith h .headNotReady s)
      ∧ (s.head.status = .ready → s.head.tare ≠ none → exec (.tare h) s = refusedWith h .busy s)
      ∧ (s.head.status = .ready → s.head.tare = none →
          ((s.motion.stroke ≠ .idle ∧ s.motion.stroke ≠ .unhomed) ∨ s.run ≠ none) →
          exec (.tare h) s = refusedWith h .busy s)
      ∧ (s.head.status = .ready → s.head.tare = none → (s.motion.stroke = .idle ∨ s.motion.stroke = .unhomed) →
          s.run = none →
          exec (.tare h) s = .next (State.arbiters { heard h s with head := { s.head with
            tare := some {
              tag := h.tag, instants := 0
              sums := ((List.range' 1 48).filter (fun p => (s.head.entry p).status = .present)).map
                (fun p => { position := p, sum := 0, count := 0 }) } } })))
  ∧ (∀ (t : Tare) (s : State), s.head.tare = some t → t.instants = 64 → s.head.table.length = 48 →
      (t.sums.map (·.position)).Nodup → (∀ u ∈ t.sums, 1 ≤ u.position ∧ u.position ≤ 48) →
      ∃ table : List PosEntry, table.length = 48
        ∧ (∀ p e, 1 ≤ p → s.head.table[p - 1]? = some e →
            (∀ u ∈ t.sums, u.position = p → u.count = 64 →
              table[p - 1]? = some { e with offset := Int.fdiv (u.sum + 32) 64, tared := true, drift := false })
            ∧ ((∀ u ∈ t.sums, u.position = p → u.count ≠ 64) → table[p - 1]? = some e))
        ∧ exec .tareComplete s = .next (State.arbiters (State.reply
            { s with head := { s.head with table := table, tare := none } } .cell t.tag .ok
            [.u8 (t.sums.filter (fun u => u.count = 64)).length, .u8 (t.sums.filter (fun u => u.count ≠ 64)).length])))

/-- R28, R35: the present positions a lane in use carries at each width, in order of position; the frame of a lane that
counts, the first of the instant that holds a raw sample for each slot, which is the model's reading of a complete frame
(DEDUCED, notes/assumptions/12.md); and the raw samples of an instant, one at most for a position. -/
def Obligations.LaneFramesCarryTheSlots : Prop :=
  ∀ (h : Head) (frames : List LaneFrame),
    let present := fun p => 1 ≤ p ∧ p ≤ 48 ∧ (h.entry p).status = .present
    (∀ k p, h.width = some .four → h.lanes = [1, 2, 3, 4] → 1 ≤ k → k ≤ 4 →
      (p ∈ h.slots k ↔ present p ∧ 12 * (k - 1) + 1 ≤ p ∧ p ≤ 12 * k))
    ∧ (∀ a b p, h.width = some .two → h.lanes = [a, b] → a < b →
      (p ∈ h.slots a ↔ present p ∧ p ≤ 24) ∧ (p ∈ h.slots b ↔ present p ∧ 25 ≤ p))
    ∧ (∀ a p, h.width = some .one → h.lanes = [a] → (p ∈ h.slots a ↔ present p))
    ∧ (∀ lane, (h.slots lane).Pairwise (· < ·))
    ∧ (∀ lane,
      let good := fun f : LaneFrame => f.lane = lane ∧ f.raws.length = (h.slots lane).length
      (∀ a f b, frames = a ++ f :: b → good f → (∀ g ∈ a, ¬ good g) → h.goodFrame frames lane = some f)
      ∧ ((∀ f ∈ frames, ¬ good f) → h.goodFrame frames lane = none))
    ∧ (∀ p raw, (p, raw) ∈ h.rawSamples frames ↔ ∃ lane ∈ h.lanes, ∃ f, h.goodFrame frames lane = some f
        ∧ ∃ i : Nat, (h.slots lane)[i]? = some p ∧ f.raws[i]? = some raw)
    ∧ (h.lanes.Nodup → ((h.rawSamples frames).map (·.1)).Nodup)

/-- R35, R36, R41: the frames of an instant in READY. A lane's count returns to 0 at a good frame and rises to at most 8 at a
bad one; each raw sample of a good frame, tared, clamped and marked, becomes its position's latest sample and joins the finger
frame; a tare sums it raw. With no job running that is all, beside the encoder's count and the alerts of the good frames, which
are taken after it in order of lane (R38, R39; `takeAlert`, of which CellAlertIsTakenOnce speaks); outside READY, or with a lane at
8, nothing happens. A good frame is a complete one in the model's reading (DEDUCED, notes/assumptions/12.md); that alerts come
after samples is inferred (DEDUCED, notes/assumptions/11.md); that two CELL_ALERTs of one instant reach an idle transmitter as one
frame is the model's choice (notes/assumptions/9.md). -/
def Obligations.FrameInstantTakesSamples : Prop :=
  ∀ (enc : Int) (frames : List LaneFrame) (s : State),
    let raws := s.head.rawSamples frames
    let head := (s.head.takeFrames frames).1
    let finger := (s.head.takeFrames frames).2
    let sample := fun (e : PosEntry) (raw : Int) => ({
      value := if raw - e.offset < 0 then 0 else if 20000 ≤ raw - e.offset then 20000 else (raw - e.offset).toNat
      suspect := decide (20000 ≤ raw - e.offset ∨ e.tared = false ∨ e.overtemp = true ∨ e.drift = true
        ∨ e.failed = true) } : FingerSample)
    (s.head.bad.length = 4 → s.head.table.length = 48 → (raws.map (·.1)).Nodup →
      (∀ l, 1 ≤ l → l ≤ 4 → ∀ n, s.head.bad[l - 1]? = some n → head.bad[l - 1]? = some (
        if l ∉ s.head.lanes then 0 else if (s.head.goodFrame frames l).isSome then 0 else min 8 (n + 1)))
      ∧ (∀ p e, 1 ≤ p → s.head.table[p - 1]? = some e → (∀ r ∈ raws, r.1 ≠ p) → head.table[p - 1]? = some e)
      ∧ (∀ p e raw, 1 ≤ p → s.head.table[p - 1]? = some e → (p, raw) ∈ raws →
          head.table[p - 1]? = some { e with latest := some (sample e raw) })
      ∧ finger = raws.map (fun x => (x.1, sample (s.head.entry x.1) x.2))
      ∧ head = { s.head with
            bad := head.bad, table := head.table, acks := []
            tare := s.head.tare.map (fun t => if 64 ≤ t.instants then t else { t with
              instants := t.instants + 1
              sums := t.sums.map (fun u => match raws.find? (fun x => x.1 = u.position) with
                | some x => { u with sum := u.sum + x.2, count := u.count + 1 }
                | none => u) }) })
    ∧ (s.head.status = .ready → (∀ n ∈ s.head.bad, n < 8) → s.run = none →
        let alerts := s.head.lanes.flatMap (fun l => match s.head.goodFrame frames l with
          | some f => f.alerts
          | none => [])
        exec (.frameInstant enc frames) s
          = .next (State.arbiters (alerts.foldl takeAlert { latched enc s with head := head })))
    ∧ ((s.head.status ≠ .ready ∨ ∃ n ∈ s.head.bad, 8 ≤ n) → exec (.frameInstant enc frames) s = .next s.arbiters)

/-- R38, R88, R96, R97, R110: a frame instant while a job is RUNNING. While binning is active each mapped position's sample
enters its column's channel at the latched depth, unless the head has left READY since START; in PRESSING a sample above its
column's finger cap ends the PRESS step FORCE_CAP; the alerts of the good frames are taken last, in order of lane. That
samples come before caps and both before alerts is inferred (DEDUCED, notes/assumptions/11.md), as is what a good frame holds
(notes/assumptions/12.md); that the notices of one instant wait for its end is the model's choice (notes/assumptions/9.md). -/
def Obligations.FrameInstantFeedsThePress : Prop :=
  ∀ (enc : Int) (frames : List LaneFrame) (j : Job) (r : Run) (s : State),
    s.job = some j → j.run = some r → s.head.status = .ready → (∀ n ∈ s.head.bad, n < 8) →
    let position := enc - s.motion.zero
    let finger := (s.head.takeFrames frames).2
    let sample := fun p => (finger.find? (fun x => x.1 = p)).map (·.2)
    let alerts := s.head.lanes.flatMap (fun l => match s.head.goodFrame frames l with
      | some f => f.alerts
      | none => [])
    let binned := r.map.zipIdx.foldl (fun (p : Profile) (x : Nat × Nat) => match sample x.1 with
      | some v => p.bin (x.2 + 1) position v.value v.suspect
      | none => p) s.profile
    let fed : State := { latched enc s with
      head := (s.head.takeFrames frames).1
      profile := if s.profile.binning = true ∧ r.fingersGone = false then binned else s.profile }
    let exceeded := ∃ (lim : Limits) (i p cap : Nat) (v : FingerSample), s.monitor.limits = some lim
      ∧ lim.caps[i]? = some (some cap) ∧ r.map[i]? = some p ∧ sample p = some v ∧ cap < v.value
    (s.monitor.phase ≠ .pressing ∨ ¬ exceeded → exec (.frameInstant enc frames) s = .next (alerts.foldl takeAlert fed).arbiters)
    ∧ (s.monitor.phase = .pressing → exceeded → ∀ h, r.inHand = some h → bodyKind h.record.body = .press →
        let h' : InHand := { h with travelled := h.travelled + (enc - s.motion.enc).natAbs }
        ∃ u, Aborted false { r with inHand := some h' } h' .forceCap position fed u
          ∧ exec (.frameInstant enc frames) s = .next (alerts.foldl takeAlert u).arbiters)

/-- R38, R39, R112: an alert of a good frame. It is acknowledged; from a position that is not present, or with the sequence
number last taken, it has no other effect; otherwise number, kind and value are kept, its kind has its effect, and CELL_ALERT
is raised. A mapped position that becomes failed makes its column ABSENT in the OPEN record, and ends the program SENSING_LOST
while the monitor is WATCHING or PRESSING. That CELL_ALERT comes before STEP_DONE is the model's choice
(notes/assumptions/10.md); that a step so ended has the position last latched as its end position is inferred
(DEDUCED, notes/assumptions/23.md). -/
def Obligations.CellAlertIsTakenOnce : Prop :=
  ∀ (a : Alert) (e : PosEntry) (s : State), 1 ≤ a.position → s.head.table[a.position - 1]? = some e →
    let acked : State := { s with head := { s.head with acks := s.head.acks ++ [(a.position, a.seq)] } }
    let taken : State := State.raise { acked with head := { acked.head with
        table := s.head.table.set (a.position - 1) { e with
          overtemp := if a.kind = 0 then true else if a.kind = 1 then false else e.overtemp
          drift := e.drift || decide (a.kind = 2), failed := e.failed || decide (a.kind = 3)
          lastAlert := some (a.kind, a.value), lastSeq := some a.seq } } }
      (.cellAlert a.position a.kind a.value)
    let absent : State := { taken with store := { s.store with records := s.store.records.map (fun q =>
      if q.state = .opened then { q with columns := q.columns.map (fun c =>
        if c.position = a.position then { c with judged := false } else c) } else q) } }
    (e.status ≠ .present ∨ e.lastSeq = some a.seq → takeAlert s a = acked)
    ∧ (e.status = .present → e.lastSeq ≠ some a.seq →
      ((a.kind ≠ 3 ∨ e.failed = true ∨ s.monitor.phase = .inactive ∨ (∀ r, s.run = some r → a.position ∉ r.map)) →
        takeAlert s a = taken)
      ∧ ∀ j r, s.job = some j → j.run = some r → a.kind = 3 → e.failed = false → a.position ∈ r.map →
        (s.monitor.phase = .settled → takeAlert s a = absent)
        ∧ (s.monitor.phase = .watching ∨ s.monitor.phase = .pressing →
          (∀ h, r.inHand = some h → Aborted false r h .sensingLost s.motion.position absent (takeAlert s a))
          ∧ (r.inHand = none → s.motion.stroke = .paused → PauseEnded false j r .sensingLost absent (takeAlert s a))))

/-- R33, R34, R44: HEAD MAP in every head state: the head fields and the 48 position entries, each with its readiness. The
wire layout of an entry, the absence of a count before the entries, and the two fields before the first enumeration are the
model's choice (notes/assumptions/14.md, notes/assumptions/21.md). -/
def Obligations.HeadMapShowsTheTable : Prop :=
  ∀ (h : Header) (s : State), admitted h .headMap s = true →
    let kind := if s.head.enumerated then s.head.kind else none
    let mount := if s.head.enumerated then s.head.orientation else none
    exec (.headMap h) s = answered h .ok
      ([Wire.u8 (headCode s.head.status), Wire.u8 (widthCode s.head.width), Wire.set s.head.lanes, Wire.set s.head.failedLanes]
        ++ opt8 kind ++ opt8 (mount.map orientationCode) ++ [Wire.flag s.head.tare.isSome, Wire.u8 s.head.unassigned]
        ++ (List.range' 1 48).flatMap (fun p =>
          let e := s.head.entry p
          let ready := s.head.status = .ready ∧ e.status = .present ∧ e.failed = false ∧ e.tared = true
            ∧ e.overtemp = false ∧ e.drift = false
          [Wire.u8 (posStatusCode e.status)] ++ opt32 e.serial ++ opt8 e.cellKind ++ opt8 e.claimants
            ++ [Wire.flag e.failed, Wire.flag e.tared, Wire.s16 e.offset, Wire.flag e.overtemp, Wire.flag e.drift, Wire.flag e.lastAlert.isSome,
                Wire.u8 ((e.lastAlert.map (·.1)).getD 0), Wire.u16 ((e.lastAlert.map (·.2)).getD 0), Wire.flag e.latest.isSome,
                Wire.u16 ((e.latest.map (·.value)).getD 0), Wire.flag ((e.latest.map (·.suspect)).getD false),
                Wire.flag (decide ready)])) (heard h s)

/-- R22, R24 to R41, R163, R165: what the head and the guard unit keep in every step: the sizes of their tables, the counts,
the width, lanes and stages that belong to each head state, a tare in READY alone, and the first-opened mark beside a set that
is not empty. -/
def Obligations.HeadAndGuardsStaySound : Prop :=
  (∀ s t : State, HeadSound s.head → step s = .next t → HeadSound t.head)
  ∧ (∀ s t : State, GuardsSound s.guards → step s = .next t → GuardsSound t.guards)

/-! ## The job (chapter 3) -/

/-- R47: JOB's checks in order and the job it makes. -/
def Obligations.JobIsPrepared : Prop :=
  ∀ (h : Header) (id f : Nat) (serial : List Nat) (mode : Nat) (s : State), admitted h (.job id f serial mode) s = true →
    let fields := (1 ≤ id ∧ id ≤ 9999) ∧ (1 ≤ f ∧ f ≤ 48)
      ∧ (1 ≤ serial.length ∧ serial.length ≤ 24 ∧ ∀ c ∈ serial, 32 ≤ c ∧ c ≤ 126) ∧ mode ≤ 1
    (s.job ≠ none → exec (.job h id f serial mode) s = refusedWith h .jobExists s)
    ∧ (s.job = none → ¬ fields → exec (.job h id f serial mode) s = refusedWith h .badField s)
    ∧ (s.job = none → fields → tabGet s.cat.types id = none →
        exec (.job h id f serial mode) s = refusedWith h .notFound s)
    ∧ (s.job = none → fields → ∀ e, tabGet s.cat.types id = some e → 1 ≤ e.cols →
        (48 < f + e.cols - 1 → exec (.job h id f serial mode) s = refusedWith h .badField s)
        ∧ (f + e.cols - 1 ≤ 48 → exec (.job h id f serial mode) s = answered h .ok
            [.u8 e.cols, .u8 f, .u8 (f + e.cols - 1)]
            { heard h s with job := some {
              typeId := id, first := f, serial := serial, mode := if mode = 0 then .preloaded else .streamed
              queue := [], grammar := .opening, pressAccepted := false, count := 0, run := none } }))

/-- R49, R51, R52: STEP's checks in order; an accepted step joins the queue of a PREPARED job, or of a RUNNING one whose
stroke is not PAUSED, and advances count, grammar position and press accepted mark. R59: a STEP accepted while the stroke is
PAUSED, the queue being empty, is handed over in the same event and the underrun timer stops. That the step so handed over starts
at the count last latched is inferred (DEDUCED, notes/assumptions/5.md); that a last flag byte above 1 is refused BAD_FIELD is the
model's choice (notes/assumptions/16.md). -/
def Obligations.StepJoinsTheQueue : Prop :=
  (∀ b : StepBody, bodyInRange b = true ↔ match b with
    | .move t v => t ≤ 199000 ∧ 1 ≤ v ∧ v ≤ 1000
    | .probe l v lo hi => l ≤ 199000 ∧ 1 ≤ v ∧ v ≤ 1000 ∧ lo ≤ hi ∧ hi ≤ 199000
    | .press v cap => 1 ≤ v ∧ v ≤ 500 ∧ 1000 ≤ cap
    | .dwell t => t ≤ 10000
    | .retract t v => t ≤ 199000 ∧ 1 ≤ v ∧ v ≤ 1000)
  ∧ (∀ (h : Header) (offer : StepOffer) (last : Nat) (s : State), admitted h (.step offer last) s = true →
      (s.openJob = none → exec (.step h offer last) s = refusedWith h .noJob s)
      ∧ ∀ j, s.openJob = some j →
        ((∀ b, offer = .known b → last ≤ 1 → bodyInRange b = false) →
          exec (.step h offer last) s = refusedWith h .badField s)
        ∧ ∀ b, offer = .known b → last ≤ 1 → bodyInRange b = true →
          (grammarNext j.grammar (bodyKind b) = none → exec (.step h offer last) s = refusedWith h .programOrder s)
          ∧ ∀ g, grammarNext j.grammar (bodyKind b) = some g →
            (16 ≤ j.queue.length → exec (.step h offer last) s = refusedWith h .queueFull s)
            ∧ (j.queue.length < 16 → 16 ≤ j.count → exec (.step h offer last) s = refusedWith h .programFull s)
            ∧ (j.queue.length < 16 → j.count < 16 → (j.run = none ∨ s.motion.stroke ≠ .paused) →
                exec (.step h offer last) s = answered h .ok [.u8 (15 - j.queue.length), .u8 (j.count + 1)]
                  { heard h s with job := some { j with
                    queue := j.queue ++ [{ body := b, last := decide (last = 1) }], count := j.count + 1
                    grammar := if last = 1 then .closing else g
                    pressAccepted := j.pressAccepted || decide (bodyKind b = .press) } }))
  ∧ (∀ (h : Header) (b : StepBody) (last : Nat) (j : Job) (r : Run) (g : Grammar) (s : State),
      admitted h (.step (.known b) last) s = true → s.job = some j → j.run = some r → r.ended = false → j.queue = [] →
      s.motion.stroke = .paused → last ≤ 1 → bodyInRange b = true → grammarNext j.grammar (bodyKind b) = some g →
      j.count < 16 →
      let rec' : StepRecord := { body := b, last := decide (last = 1) }
      let speed := commandOf s.head.width s.motion.position b
      exec (.step h (.known b) last) s = answered h .ok [.u8 16, .u8 (j.count + 1)] { heard h s with
        job := some { j with
          count := j.count + 1, grammar := if last = 1 then .closing else g
          pressAccepted := j.pressAccepted || decide (bodyKind b = .press)
          run := some { r with
            underrun := false, handed := r.handed + 1
            inHand := some (takeInHand s.head.width s.motion.position r.handed rec') } }
        motion := { s.motion with stroke := .running, commanded := speed }
        monitor := s.monitor.handOver b })

/-- R51: a sequence of step kinds without the last flag brings OPENING to PRESSED exactly when it is any number of MOVE and
DWELL, one PROBE, any number of DWELL, one PRESS, and any number of DWELL and RETRACT. -/
def Obligations.GrammarAcceptsPressPrograms : Prop :=
  ∀ kinds : List StepKind,
    kinds.foldl (fun g k => g.bind (fun p => grammarNext p k)) (some Grammar.opening) = some .pressed ↔
      ∃ a b c : List StepKind, kinds = a ++ [.probe] ++ b ++ [.press] ++ c
        ∧ (∀ k ∈ a, k = .move ∨ k = .dwell) ∧ (∀ k ∈ b, k = .dwell) ∧ (∀ k ∈ c, k = .dwell ∨ k = .retract)

/-- R53: STEP FLUSH. -/
def Obligations.StepFlushEmptiesTheQueue : Prop :=
  ∀ (h : Header) (s : State),
    (admitted h .stepFlush s = true →
      (s.job = none → exec (.stepFlush h) s = refusedWith h .busy s)
      ∧ (∀ j, s.job = some j → j.run ≠ none → exec (.stepFlush h) s = refusedWith h .busy s)
      ∧ (∀ j, s.job = some j → j.run = none → exec (.stepFlush h) s = answered h .ok [.u8 16]
          { heard h s with job := some { j with queue := [], grammar := .opening, pressAccepted := false, count := 0 } }))
    ∧ (h.link = .line → s.line.replies.length < 8 → exec (.stepFlush h) s = refusedWith h .notPermitted s)

/-- R54: the nine checks of START in order, each refusal changing nothing. -/
def Obligations.StartRefusesInOrder : Prop :=
  ∀ (h : Header) (s : State), admitted h .start s = true →
    let refused := fun st => exec (.start h) s = refusedWith h st s
    (s.job = none → refused .noJob)
    ∧ (∀ j, s.job = some j → j.run ≠ none → refused .busy)
    ∧ ∀ j e, s.job = some j → j.run = none → tabGet s.cat.types j.typeId = some e →
      ((s.motion.stroke = .unhomed ∨ s.motion.stroke = .faulted) → refused .notHomed)
      ∧ ((s.motion.stroke = .homing ∨ s.motion.stroke = .running ∨ s.motion.stroke = .paused
          ∨ s.motion.stroke = .stopping ∨ s.motion.stroke = .retracting) → refused .busy)
      ∧ (s.motion.stroke = .idle →
        (s.openSet ≠ [] → refused .guardOpen)
        ∧ (s.openSet = [] → s.head.status ≠ .ready → refused .headNotReady)
        ∧ (s.openSet = [] → s.head.status = .ready → s.head.tare ≠ none → refused .busy)
        ∧ (s.openSet = [] → s.head.status = .ready → s.head.tare = none →
          (s.qualEntry j = none → refused .notQualified)
          ∧ ∀ q, s.qualEntry j = some q →
            let unready := q.level = .q1 ∧ ∃ p ∈ columnMap (s.head.orientation.getD .normal) j.first e.cols,
              s.head.ready p = false
            let held := ∃ r ∈ s.store.records, r.state = .held
            (unready → refused .sensingIncomplete)
            ∧ (¬ unready → held → refused .held)
            ∧ (¬ unready → ¬ held → 32 ≤ s.store.records.length → refused .resultsFull)
            ∧ (¬ unready → ¬ held → s.store.records.length < 32 →
                (j.mode = .preloaded ∧ ¬ (j.grammar = .closing ∧ j.pressAccepted = true)
                  ∨ j.mode = .streamed ∧ j.queue = []) → refused .programIncomplete)))

/-- R19 to R21, R48, R55, R73, R94, R107, R138, R155: START taken. The record is opened, the qualification snapshotted, the profile
cleared, the monitor loaded with the finger caps and the search start of the catalogue copy, the job set RUNNING and the oldest
step handed over. The press number is the first free one from the next press number on, 65,535 being followed by 1. That the first
step's start position and commanded speed are taken at the count last latched is inferred (DEDUCED, notes/assumptions/5.md). -/
def Obligations.StartOpensThePress : Prop :=
  ∀ (h : Header) (j : Job) (e : TypeEntry) (q : QualEntry) (o : Orientation) (kind : Nat) (w : Width)
    (rec : StepRecord) (rest : List StepRecord) (s : State),
    admitted h .start s = true → s.job = some j → j.run = none → tabGet s.cat.types j.typeId = some e →
    s.motion.stroke = .idle → s.openSet = [] → s.head.status = .ready → s.head.tare = none →
    s.head.orientation = some o → s.head.kind = some kind → s.head.width = some w →
    tabGet s.qual.table (qualKey j.typeId kind) = some q → j.queue = rec :: rest →
    let map := (List.range' 1 e.cols).map (fun c => match o with
      | .normal => j.first + c - 1
      | .reversed => j.first + e.cols - c)
    (q.level = .q1 → ∀ p ∈ map, s.head.ready p = true) → (∀ r ∈ s.store.records, r.state ≠ .held) →
    s.store.records.length < 32 → (j.mode = .preloaded → j.grammar = .closing ∧ j.pressAccepted = true) →
    let press := s.store.newPress
    let copy : CatalogueCopy := { entry := e, classes := s.cat.classes.filter (fun c => namesClass e c.1) }
    let fieldOf := fun (f : ClassEntry → Nat) (pin : PinCell) => ((tabGet copy.classes pin.cls).map f).getD 0
    let cap := fun c : Nat => if columnPins e c = [] then none
      else some (min 19500 ((columnPins e c).map (fieldOf (·.abort))).sum)
    let longest := fun x : Nat => maxOf ((((List.range' 1 e.cols).flatMap (columnPins e)).filter (fun pin => pin.rank = x)).map
      (fieldOf (·.engage)))
    let audited := q.level = .q2 ∧ q.count + 1 = q.interval
    let speed := commandOf (some w) s.motion.position rec.body
    let after := fun n : Nat => if n < 65535 then n + 1 else 1
    let taken := fun n : Nat => ∃ r ∈ s.store.records, r.press = n
    (∃ k, press = after^[k] s.store.next ∧ ¬ taken press ∧ ∀ i < k, taken (after^[i] s.store.next))
    ∧ exec (.start h) s = answered h .ok [.u16 press] { heard h s with
      store := {
        next := after press
        records := s.store.records ++ [
          { press := press, state := .opened, typeId := j.typeId, serial := j.serial, first := j.first, orientation := o,
            headKind := kind, level := q.level, audit := decide audited, width := w, touch := none, seat := none,
            cause := none, verdict := none, peak := 0, disposition := none, copy := copy, outcomes := [], pins := [],
            columns := map.zipIdx.map (fun (p, i) => {
              column := i + 1, position := p, judged := s.head.ready p, base := none, ranks := [], hold := none
              holdVerdict := none }) }] }
      qual := { s.qual with table := tabPut s.qual.table (qualKey j.typeId kind) { q with
        count := if q.level = .q2 then if q.count + 1 = q.interval then 0 else q.count + 1 else q.count } }
      profile := { s.profile with
        press := some press, complete := false, typeId := some j.typeId, cols := some e.cols, map := map, touch := none
        touchForce := none, bases := none, binning := false, deepest := none, pressEnd := none, leading := none
        channels := List.replicate (e.cols + 1) [] }
      monitor := Monitor.handOver {
        phase := .watching, ramCap := none, knee := none, seat := none
        limits := some {
          press := press, caps := (List.range' 1 e.cols).map cap
          searchStart := maxOf ((List.range' 1 e.ranks).map (fun x => onsetOf e x + longest x))
          bandLow := e.seat - e.tol, bandHigh := e.seat + e.tol
          overtravel := e.seat + e.tol + 50, kneeRise := 50 * e.slope } } rec.body
      job := some { j with
        queue := rest
        run := some {
          press := press, map := map, handed := 1, ended := false, underrun := false, restMade := false, fingersGone := false
          inHand := some (takeInHand (some w) s.motion.position 0 rec) } }
      motion := { s.motion with stroke := .running, commanded := speed } }

/-- R57, R68, R73 to R77, R82, R83, R107, R108: what the hand-over of a step fixes, kind by kind: its speed used, its clamped
flag, an end given at the hand-over, the signed speed commanded and, for a PRESS, the applied ram cap; the ramp output as the
commanded speed goes to zero; the stop rates; the follow-on of an abort cause; and the hand-over of the oldest step, which leaves
the ramp output as it is. That a RETRACT with a target just above its start is no end at the hand-over is inferred
(notes/assumptions/22.md), as is the form of the ramp output (notes/assumptions/6.md); that a PRESS with no width in effect runs
at its requested speed is the model's choice (notes/assumptions/28.md). -/
def Obligations.HandOverSetsTheStep : Prop :=
  (∀ (w : Option Width) (start : Int) (index : Nat) (rec : StepRecord) (m : Monitor),
    let hand := takeInHand w start index rec
    let command := commandOf w start rec.body
    let fixes := fun (speed : Option Nat) (clamped : Option Bool) (ends : Prop) (v : Int) =>
      hand.record = rec ∧ hand.index = index ∧ hand.start = start ∧ hand.travelled = 0 ∧ hand.peak = 0
      ∧ hand.speedUsed = speed ∧ hand.clamped = clamped ∧ (hand.endsNow = true ↔ ends)
      ∧ (ends → command = 0) ∧ (¬ ends → command = v)
    match rec.body with
    | .move t v => fixes (some v) (some false) ((t - start).natAbs ≤ 3) (if start < t then v else -v)
        ∧ m.handOver rec.body = m
    | .retract t v => fixes (some v) (some false) (start ≤ t) (-v) ∧ m.handOver rec.body = m
    | .probe l v _ _ => fixes (some (min v 100)) (some (decide (100 < v))) (l ≤ start + 3) (min v 100 : Nat)
        ∧ m.handOver rec.body = m
    | .dwell t => fixes none none (t = 0) 0 ∧ m.handOver rec.body = m
    | .press v cap => (∀ x limit, w = some x → (x, limit) ∈ [(Width.four, 500), (.two, 250), (.one, 125)] →
          fixes (some (min v limit)) (some (decide (limit < v))) False (min v limit : Nat))
        ∧ (w = none → fixes (some v) (some false) False v)
        ∧ m.handOver rec.body = { m with phase := .pressing, ramCap := some (min cap 50000) })
  ∧ (∀ (v : Int) (rate r : Nat), v ≠ 0 →
      slowRamp rate .zero = .zero ∧ slowRamp rate (.falling r 0) = .zero
      ∧ slowRamp rate (.following v) = .falling rate v ∧ slowRamp rate (.falling r v) = .falling (max r rate) v)
  ∧ (∀ k, stopRate k = if k = .press then 20000 else 2000)
  ∧ (∀ c, (c ∈ [EndCause.stopped, .underrun, .forceCap, .earlySeat, .overtravel, .noTouch, .touchWindow, .sensingLost] →
        followOf c = .retract)
      ∧ (c ∈ [EndCause.guard, .stall, .travelLimit] → followOf c = .idle))
  ∧ (∀ (j : Job) (r : Run) (rec : StepRecord) (rest : List StepRecord) (s : State),
      s.job = some j → j.run = some r → j.queue = rec :: rest →
      let speed := commandOf s.head.width s.motion.position rec.body
      handOver s = { s with
        job := some { j with
          queue := rest
          run := some { r with
            handed := r.handed + 1, inHand := some (takeInHand s.head.width s.motion.position r.handed rec) } }
        motion := { s.motion with stroke := .running, commanded := speed }
        monitor := s.monitor.handOver rec.body })

/-- R62: STOP outside a homing: answered OK in every job state; a PREPARED job is discarded; a step in hand ends STOPPED and
the program with it; an ended program and the absence of a job leave everything as it is. PausedProgramsEnd states a PAUSED
program's end, HomingRunsItsCourse STOP in a homing. That the end position is the count last latched and that the OK reply
leaves before STEP_DONE are the model's choices (notes/assumptions/23.md, notes/assumptions/9.md). -/
def Obligations.StopActsByJobState : Prop :=
  ∀ (h : Header) (s : State), admitted h .stop s = true → s.motion.stroke ≠ .homing →
    (s.job = none → exec (.stop h) s = answered h .ok [] (heard h s))
    ∧ (∀ j, s.job = some j → j.run = none → exec (.stop h) s = answered h .ok [] { heard h s with job := none })
    ∧ (∀ r, s.run = some r → r.ended = true → exec (.stop h) s = answered h .ok [] (heard h s))
    ∧ (∀ r hand, s.run = some r → r.ended = false → r.inHand = some hand → ∃ u,
        Aborted false r hand .stopped s.motion.position (heard h s) u ∧ exec (.stop h) s = answered h .ok [] u)

/-- R57, R58, R59, R74, R77, R85: the normal ends of MOVE, RETRACT and DWELL steps, and the ends R74 and R77 give at the
hand-over, and what the program does after them. That MOVE_REACHED and DWELL_ELAPSED also end a step whose end was given at
its hand-over is inferred (notes/assumptions/30.md). STEP_DONE before QUEUE_LOW is the model's choice
(notes/assumptions/10.md), and so is HANDOVER_END's own count as the end position of a step that a hand-over ends while the ramp
output is still falling (notes/assumptions/36.md). -/
def Obligations.NormalEndsGoOn : Prop :=
  ∀ (j : Job) (r : Run) (h : InHand) (enc : Int) (s : State),
    s.job = some j → j.run = some r → r.inHand = some h →
    let h' : InHand := { h with travelled := h.travelled + (enc - s.motion.enc).natAbs }
    let r' : Run := { r with inHand := some h' }
    let position := enc - s.motion.zero
    (∀ t : Nat, (∃ v, h.record.body = .move t v ∨ h.record.body = .retract t v) →
        ((position - t).natAbs ≤ 3 → ∃ u,
          GoesOn j r' h' .reached position { latched enc s with motion := { s.motion with enc := enc, ramp := .zero } } u
          ∧ exec (.moveReached enc) s = .next u.arbiters)
        ∧ (3 < (position - t).natAbs → exec (.moveReached enc) s = .next (latched enc s).arbiters))
    ∧ (∀ t, h.record.body = .dwell t → ∃ u,
        GoesOn j r' h' .elapsed position (latched enc s) u ∧ exec (.dwellElapsed enc) s = .next u.arbiters)
    ∧ (h.endsNow = true → (bodyKind h.record.body = .move ∨ bodyKind h.record.body = .retract) → ∃ u,
        GoesOn j r' h' .reached position (latched enc s) u ∧ exec (.handoverEnd enc) s = .next u.arbiters)
    ∧ (h.endsNow = true → bodyKind h.record.body = .dwell → ∃ u,
        GoesOn j r' h' .elapsed position (latched enc s) u ∧ exec (.handoverEnd enc) s = .next u.arbiters)
    ∧ (h.endsNow = false → exec (.handoverEnd enc) s = .next (latched enc s).arbiters)

/-- R59, R62, R82, R83, R111, R167: the ends of a PAUSED program by the expiry of the underrun timer, by STOP, by a guard of any
counting kind, by a detach and by an automatic retrain before the PRESS step: where the ram is at rest the stroke passes through
STOPPING to its follow-on in the same event; where the ramp is still falling or the ram moves, it stays STOPPING. What 'at
rest' reads is the model's measure (notes/assumptions/7.md), and that the entry acts before GUARD_OPEN is its choice
(notes/assumptions/10.md). A drive fault in PAUSED stands in DriveFaultsAreTaken. -/
def Obligations.PausedProgramsEnd : Prop :=
  ∀ (j : Job) (r : Run) (h : Header) (enc : Int) (s : State),
    s.job = some j → j.run = some r → r.ended = false → r.inHand = none → s.motion.stroke = .paused →
    (r.underrun = true → ∃ u,
      PauseEnded false j r .underrun (latched enc s) u ∧ exec (.underrunTimeout enc) s = .next u.arbiters)
    ∧ (admitted h .stop s = true → ∃ u,
      PauseEnded false j r .stopped (heard h s) u ∧ exec (.stop h) s = answered h .ok [] u)
    ∧ (∀ i, 1 ≤ i → i ≤ 8 → s.guards.states.length = 8 → s.openSet = [] → s.guards.kind i ≠ .absent →
      let opened := { s.guards with states := s.guards.states.set (i - 1) .opened }
      ∃ u, PauseEnded (decide (s.guards.kind i = .estop)) j r .guard { latched enc s with guards := opened } u
        ∧ exec (.guardInputChange i true enc) s = .next (State.arbiters (State.raise
            { u with guards := { opened with firstOpened := some (.input i), openTicks := 0 } }
            (.guardOpen i (s.guards.kind i) [i]))))
    ∧ (s.head.status = .ready → s.monitor.phase = .watching →
      (∃ u, PauseEnded false j { r with fingersGone := true } .sensingLost
          (fingersStop (headGone (tareEnded (latched enc s)))) u
        ∧ exec (.headDetach enc) s = .next u.arbiters)
      ∧ ((∃ n ∈ s.head.bad, 8 ≤ n) →
        ∃ u, PauseEnded false j { r with fingersGone := true } .sensingLost
            (fingersStop (trainingFrom (attemptOf s.head.width) (tareEnded (latched enc s)))) u
          ∧ exec (.automaticRetrain enc) s = .next u.arbiters))

/-- R65, R119, R143, R144, R157: the rest report: the job becomes NONE, the open record is judged, held or completed, and
announced; a record held starts the hold with the hold time in effect, which the model counts in ram samples
(notes/assumptions/1.md). That a report once made stays made is inferred (notes/assumptions/8.md). -/
def Obligations.RestReportJudgesThePress : Prop :=
  ∀ (r : Run) (rec : Record) (before after : List Record) (s : State),
    s.run = some r → r.ended = true → s.profile.complete = true →
    (r.restMade = true ∨ s.motion.stroke = .idle ∨ s.motion.stroke = .faulted) → s.store.records = before ++ rec :: after →
    rec.state = .opened → (∀ q ∈ before ++ after, q.state ≠ .opened) →
    let judged := judge s.profile s.monitor.knee rec
    let held := judged.level = .qp ∨ judged.audit = true ∨ judged.verdict ≠ some .accept
    let state : RecordState := if held then .held else .complete
    ∃ v, judged.verdict = some v ∧ exec .restReport s = .next (State.arbiters (State.raise { s with
      job := none
      monitor := { s.monitor with phase := .inactive, limits := none }
      store := { s.store with records := before ++ { judged with state := state } :: after }
      qual := if held then { s.qual with
          held := some rec.press, timer := .running, overdue := false, startedWith := some s.qual.holdTime
          remaining := some (s.qual.holdTime * 10000) } else s.qual } (.pressDone rec.press v state)))

/-- R46, R50 to R59, R95, R102, R106, R107: what the job unit keeps in every step (queue and count within 16, the steps handed
over and waiting adding up to the count, a program in progress with a step in hand or PAUSED, PAUSED with an empty queue and its
timer running) and what the monitor and the profile keep beside it (the phase that the job and the step in hand give, the
limits and the profile of the running press). -/
def Obligations.JobAndMonitorStaySound : Prop :=
  (∀ s t : State, MotionSound s → JobSound s → step s = .next t → JobSound t)
  ∧ (∀ s t : State, MotionSound s → JobSound s → MonitorSound s → step s = .next t → MonitorSound t)

/-! ## The motion block (chapter 4) -/

/-- R70: HOME's checks in order, and the homing it starts: upward with the home switch open, with no speed commanded where it is
seen closed at that moment. That HOME carries the switch's level is the model's choice (notes/assumptions/34.md). R71: the course
of a homing: the switch, the rest point, the completion after 64 raw ram samples with the offset floor((sum + 32) / 64), and
the time-out. R71: a homing ended early by STOP, which also discards a PREPARED job, by a stall, or by a guard of any counting
kind, ESTOP as an enable-drop stop: a stop that leads to UNHOMED, with its homing result. That the result is set in the event
that ends the homing, and that the ram tare ends through STOPPING too, are inferred (notes/assumptions/29.md). -/
def Obligations.HomingRunsItsCourse : Prop :=
  (∀ (h : Header) (closed : Bool) (s : State), admitted h .home s = true →
      let still := (s.motion.stroke = .unhomed ∨ s.motion.stroke = .idle) ∧ s.motion.ramp.output = 0
      let drive := s.motion.driveReady = true ∧ s.motion.faultInput = false
      (¬ still → exec (.home h closed) s = refusedWith h .busy s)
      ∧ (still → (s.run ≠ none ∨ s.head.tare ≠ none) → exec (.home h closed) s = refusedWith h .busy s)
      ∧ (still → s.run = none → s.head.tare = none → ¬ drive → exec (.home h closed) s = refusedWith h .busy s)
      ∧ (still → s.run = none → s.head.tare = none → drive → s.openSet ≠ [] → exec (.home h closed) s = refusedWith h .guardOpen s)
      ∧ (still → s.run = none → s.head.tare = none → drive → s.openSet = [] →
          exec (.home h closed) s = answered h .ok [] { heard h s with motion := { s.motion with
            stroke := .homing, commanded := if closed then 0 else -50, ramp := .zero, referenced := false, homing := .none
            phase := if closed then .settling else .seeking } }))
  ∧ (∀ (enc rest sum : Int) (s : State), s.motion.stroke = .homing →
      (s.motion.phase = .seeking →
        exec .homeSwitchClosed s = .next (State.arbiters { s with motion := { s.motion with
          commanded := 0, ramp := slowRamp 2000 s.motion.ramp, phase := .settling } })
        ∧ exec .homingTimeout s = .next (State.arbiters { s with motion := { s.motion with
          stroke := .stopping, commanded := 0, ramp := slowRamp 2000 s.motion.ramp, homing := .notFound, phase := .none
          stop := some {
            cause := .homing .notFound, rate := rateInForce 2000 s.motion.ramp, dropped := false, follow := .unhomed } } }))
      ∧ (s.motion.phase = .settling →
        exec (.homingRest enc) s = .next (State.arbiters { latched enc s with motion := { s.motion with
          enc := enc, ramp := .zero, phase := .taring enc 0 0 } }))
      ∧ (s.motion.phase = .taring rest sum 64 →
        exec .homingComplete s = .next (State.arbiters { s with motion := { s.motion with
          stroke := .idle, zero := rest, referenced := true, ramOffset := Int.fdiv (sum + 32) 64, homing := .homed
          phase := .none } }))
      ∧ (∀ n, s.motion.phase = .taring rest sum n → n < 64 → exec .homingComplete s = .next s.arbiters))
  ∧ (∀ (h : Header) (enc : Int) (s : State), s.motion.stroke = .homing → s.run = none →
      let ended := fun (drop : Bool) (r : HomingResult) (m : Motion) => { m with
        stroke := .stopping, commanded := 0, ramp := if drop then .zero else slowRamp 2000 m.ramp, homing := r
        phase := .none
        stop := some {
          cause := .homing r, rate := if drop then 2000 else rateInForce 2000 m.ramp, dropped := drop, follow := .unhomed } }
      (admitted h .stop s = true →
        exec (.stop h) s = answered h .ok [] { heard h s with job := none, motion := ended false .stopped s.motion })
      ∧ (s.motion.commanded ≠ 0 → exec (.stall enc) s = .next (State.arbiters { latched enc s with
          motion := ended false .stall { s.motion with enc := enc } }))
      ∧ (∀ i, 1 ≤ i → i ≤ 8 → s.guards.states.length = 8 → s.openSet = [] → s.guards.kind i ≠ .absent →
          exec (.guardInputChange i true enc) s = .next (State.arbiters (State.raise { latched enc s with
            motion := ended (decide (s.guards.kind i = .estop)) .guard { s.motion with enc := enc }
            guards := { s.guards with
              states := s.guards.states.set (i - 1) .opened, firstOpened := some (.input i), openTicks := 0 } }
            (.guardOpen i (s.guards.kind i) [i])))))

/-- R72, R78, R84: the outside-program RETRACT, its checks in order, the end of any retract within 3 µm of position 0, and a
stall that ends it. R81: CLEAR FAULT; the homing result, the job, the head and the store stay, and enable is off in UNHOMED. -/
def Obligations.RetractBringsTheRamHome : Prop :=
  ∀ (h : Header) (enc : Int) (s : State),
    (admitted h .retract s = true →
      let still := s.motion.stroke = .idle ∧ s.motion.ramp.output = 0
      ((s.motion.stroke = .unhomed ∨ s.motion.stroke = .faulted) → exec (.retract h) s = refusedWith h .notHomed s)
      ∧ (s.motion.stroke ≠ .unhomed → s.motion.stroke ≠ .faulted → ¬ still → exec (.retract h) s = refusedWith h .busy s)
      ∧ (still → s.openSet ≠ [] → exec (.retract h) s = refusedWith h .guardOpen s)
      ∧ (still → s.openSet = [] → s.motion.enc = s.motion.zero → exec (.retract h) s = answered h .ok [] (heard h s))
      ∧ (still → s.openSet = [] → s.motion.enc ≠ s.motion.zero → exec (.retract h) s = answered h .ok []
          { heard h s with motion := { s.motion with stroke := .retracting, commanded := -200, ramp := .zero } }))
    ∧ (s.motion.stroke = .retracting →
      (3 < (enc - s.motion.zero).natAbs → exec (.retractReached enc) s = .next (latched enc s).arbiters)
      ∧ ((enc - s.motion.zero).natAbs ≤ 3 →
          exec (.retractReached enc) s = .next (State.arbiters { latched enc s with
            motion := { s.motion with enc := enc, stroke := .idle, commanded := 0, ramp := .zero }
            job := (latched enc s).job.map (fun j => { j with run := j.run.map (fun r =>
              { r with restMade := r.restMade || r.ended }) }) }))
      ∧ (s.motion.commanded ≠ 0 → exec (.stall enc) s = .next (State.arbiters { latched enc s with
          motion := { s.motion with
            enc := enc, stroke := .stopping, commanded := 0, phase := .none, ramp := slowRamp 2000 s.motion.ramp
            stop := some {
              cause := .cause .stall, rate := rateInForce 2000 s.motion.ramp, dropped := false, follow := .idle } } }))
      ∧ (s.motion.commanded = 0 → exec (.stall enc) s = .next (latched enc s).arbiters))
    ∧ (admitted h .clearFault s = true →
      let may := s.motion.stroke = .faulted ∧ s.motion.driveReady = true ∧ s.motion.faultInput = false
      (may → exec (.clearFault h) s = answered h .ok [] { heard h s with motion := { s.motion with stroke := .unhomed } }
        ∧ State.enable { s with motion := { s.motion with stroke := .unhomed } } = false)
      ∧ (¬ may → exec (.clearFault h) s = refusedWith h .busy s))
    ∧ (h.link = .line → s.line.replies.length < 8 →
        exec (.retract h) s = refusedWith h .notPermitted s ∧ exec (.clearFault h) s = refusedWith h .notPermitted s)

/-- R69, R83, R84: the ram comes to rest in STOPPING and the follow-on of the stop record is taken, the guards being read
now: UNHOMED after a homing, IDLE in place, or a retract where the guards are closed and the ram is not at position 0. R68,
R73, R83: a falling ramp reaches zero in RUNNING, PAUSED or IDLE, whatever the ram samples have counted
(notes/assumptions/6.md); a commanded speed that has waited for it is followed from then on. -/
def Obligations.RestTakesTheFollowOn : Prop :=
  (∀ (enc : Int) (rec : StopRecord) (s : State), s.motion.stroke = .stopping → s.motion.stop = some rec →
      let m := { s.motion with enc := enc, ramp := Ramp.zero, stop := none }
      let rested := (latched enc s).job.map (fun j =>
        { j with run := j.run.map (fun r => { r with restMade := r.restMade || r.ended }) })
      (rec.follow = .unhomed → exec (.stopAtRest enc) s = .next (State.arbiters { latched enc s with
        motion := { m with stroke := .unhomed, referenced := false } }))
      ∧ ((rec.follow = .idle ∨ rec.follow = .retract ∧ (s.openSet ≠ [] ∨ enc = s.motion.zero)) →
        exec (.stopAtRest enc) s = .next (State.arbiters { s with motion := { m with stroke := .idle }, job := rested }))
      ∧ (rec.follow = .retract → s.openSet = [] → enc ≠ s.motion.zero →
        exec (.stopAtRest enc) s = .next (State.arbiters { latched enc s with
          motion := { m with stroke := .retracting, commanded := -200 } })))
  ∧ (∀ (rate : Nat) (v : Int) (s : State), s.motion.ramp = .falling rate v →
      (s.motion.stroke = .running ∨ s.motion.stroke = .paused ∨ s.motion.stroke = .idle) →
      exec .rampOutputZero s = .next (State.arbiters { s with motion := { s.motion with ramp := .zero } }))

/-- R61, R74 to R79, R111, R167: what aborts a step in hand: a stall of commanded motion, the travel limit, a PROBE's arrival
at its limit in motion or at the hand-over, a guard of any counting kind, ESTOP as an enable-drop stop, and the head leaving
READY before the PRESS step has ended, by a detach or an automatic retrain. STEP_DONE before GUARD_OPEN and HEAD_DETACHED before
STEP_DONE are the model's choice (notes/assumptions/10.md); the end position is that of the event's own count
(notes/assumptions/5.md, notes/assumptions/23.md). -/
def Obligations.AbortsEndTheProgram : Prop :=
  ∀ (j : Job) (r : Run) (h : InHand) (enc : Int) (s : State),
    s.job = some j → j.run = some r → r.inHand = some h → s.motion.stroke = .running →
    let h' : InHand := { h with travelled := h.travelled + (enc - s.motion.enc).natAbs }
    let r' : Run := { r with inHand := some h' }
    let position := enc - s.motion.zero
    (s.motion.commanded ≠ 0 → ∃ u,
      Aborted false r' h' .stall position (latched enc s) u ∧ exec (.stall enc) s = .next u.arbiters)
    ∧ (199500 ≤ position → ∃ u,
      Aborted false r' h' .travelLimit position (latched enc s) u ∧ exec (.travelLimit enc) s = .next u.arbiters)
    ∧ (position < 199500 → exec (.travelLimit enc) s = .next (latched enc s).arbiters)
    ∧ (∀ (l : Nat) v a b, h.record.body = .probe l v a b →
      ((position - l).natAbs ≤ 3 → ∃ u,
        Aborted false r' h' .noTouch position
          { latched enc s with motion := { s.motion with enc := enc, ramp := .zero } } u
        ∧ exec (.probeLimitArrival enc) s = .next u.arbiters)
      ∧ (h.endsNow = true → ∃ u,
        Aborted false r' h' .noTouch position (latched enc s) u ∧ exec (.handoverEnd enc) s = .next u.arbiters))
    ∧ (∀ i, 1 ≤ i → i ≤ 8 → s.guards.states.length = 8 → s.openSet = [] → s.guards.kind i ≠ .absent →
      let opened := { s.guards with states := s.guards.states.set (i - 1) .opened }
      ∃ u, Aborted (decide (s.guards.kind i = .estop)) r' h' .guard position { latched enc s with guards := opened } u
        ∧ exec (.guardInputChange i true enc) s = .next (State.arbiters (State.raise
            { u with guards := { opened with firstOpened := some (.input i), openTicks := 0 } }
            (.guardOpen i (s.guards.kind i) [i]))))
    ∧ (s.head.status = .ready → (s.monitor.phase = .watching ∨ s.monitor.phase = .pressing) →
      (∃ u, Aborted false { r' with fingersGone := true } h' .sensingLost position
          (fingersStop (headGone (tareEnded (latched enc s)))) u
        ∧ exec (.headDetach enc) s = .next u.arbiters)
      ∧ ((∃ n ∈ s.head.bad, 8 ≤ n) →
        ∃ u, Aborted false { r' with fingersGone := true } h' .sensingLost position
            (fingersStop (trainingFrom (attemptOf s.head.width) (tareEnded (latched enc s)))) u
          ∧ exec (.automaticRetrain enc) s = .next u.arbiters))

/-- R59, R80, R85: the three sources of a drive fault in every stroke state: FAULTED, enable dropped, speed and ramp zero,
RAM_FAULT raised with the state left. A step in hand ends DRIVE_FAULT at the position of the fault and the program with it; a
PAUSED program ends DRIVE_FAULT; otherwise the program keeps its end cause. The rest report is made. In FAULTED only the line's
level is taken. R81: the two events that bring the lines back. RAM_FAULT before STEP_DONE is the model's choice
(notes/assumptions/10.md). -/
def Obligations.DriveFaultsAreTaken : Prop :=
  ∀ (enc : Int) (s : State),
    let m := { s.motion with enc := enc }
    let faulted := fun (src : FaultSource) (m : Motion) => State.raise { latched enc s with
      motion := { m with
        stroke := .faulted, commanded := 0, ramp := .zero, referenced := false, stop := none, phase := .none
        homing := if s.motion.stroke = .homing then .driveFault else s.motion.homing } }
      (.ramFault src s.motion.stroke)
    let ended := fun (u : State) => { u with job := u.job.map (fun j => { j with
      queue := [], run := j.run.map (fun r => { r with ended := true, underrun := false, restMade := true }) }) }
    let follows := fun (u t : State) =>
      (s.inHand = none → s.motion.stroke ≠ .paused → t = { u with job := u.job.map (fun j =>
        { j with run := j.run.map (fun r => { r with restMade := r.restMade || r.ended }) }) })
      ∧ (s.inHand = none → s.motion.stroke = .paused → t = ended { u with
          store := { s.store with records := s.store.records.map (fun q =>
            if q.state = .opened then { q with cause := some .driveFault } else q) }
          profile := s.profile.close
          monitor := { s.monitor with phase := if s.monitor.phase = .watching then .settled else s.monitor.phase } })
      ∧ (∀ j r h, s.job = some j → j.run = some r → r.inHand = some h →
          let h' : InHand := { h with travelled := h.travelled + (enc - s.motion.enc).natAbs }
          let stepDone := stepNotice r h .driveFault (enc - s.motion.zero)
          t = { u with
            job := some { j with queue := [], run := some { r with
              inHand := none, ended := true, underrun := false, restMade := true } }
            cell := raiseOn stepDone u.cell, line := raiseOn stepDone u.line
            store := { s.store with
              records := recordsAfter h' .driveFault (enc - s.motion.zero) (some .driveFault) s.store.records }
            profile := profileAfter h true s.profile
            monitor := { s.monitor with phase := phaseAfter h true s.monitor.phase } })
    (s.motion.stroke ≠ .faulted → s.motion.driveReady = true → ∃ t,
      follows (faulted .readyLost { m with driveReady := false }) t ∧ exec (.driveReadyLost enc) s = .next t.arbiters)
    ∧ (s.motion.driveReady = false → exec (.driveReadyLost enc) s = .next (latched enc s).arbiters)
    ∧ (s.motion.stroke ≠ .faulted → ∃ t,
      follows (faulted .faultInput { m with faultInput := true }) t ∧ exec (.driveFaultInput enc) s = .next t.arbiters)
    ∧ (s.motion.stroke = .stopping → ∃ t,
      follows (faulted .stopTimeout m) t ∧ exec (.stopTimeout enc) s = .next t.arbiters)
    ∧ (s.motion.stroke = .faulted →
      exec (.driveFaultInput enc) s = .next (State.arbiters { latched enc s with motion := { m with faultInput := true } })
      ∧ (s.motion.driveReady = true → exec (.driveReadyLost enc) s = .next (State.arbiters
          { latched enc s with motion := { m with driveReady := false } })))
    ∧ exec .driveReadyPresent s = .next (State.arbiters { s with motion := { s.motion with driveReady := true } })
    ∧ exec .faultInputInactive s = .next (State.arbiters { s with motion := { s.motion with faultInput := false } })

/-- R68: motion is commanded only in HOMING, RUNNING and RETRACTING, with the open-guard set empty and drive-ready present,
in every step; and while no speed is commanded, a ramp output that is not zero is falling, at one of the two stop rates. The form
of the ramp output is the model's (notes/assumptions/6.md). -/
def Obligations.MotionOnlyWhenPermitted : Prop :=
  (∀ s t : State, MotionSound s → step s = .next t → MotionSound t)
  ∧ (∀ s : State, MotionSound s → s.motion.commanded ≠ 0 →
      (s.motion.stroke = .homing ∨ s.motion.stroke = .running ∨ s.motion.stroke = .retracting)
      ∧ s.openSet = [] ∧ s.motion.driveReady = true ∧ s.enable = true)
  ∧ ∀ s : State, MotionSound s → s.motion.commanded = 0 → s.motion.ramp.output ≠ 0 →
      s.motion.ramp = .falling 2000 s.motion.ramp.output ∨ s.motion.ramp = .falling 20000 s.motion.ramp.output

/-! ## The profile unit and the monitor (chapters 5 and 6) -/

/-- R68, R69, R71, R74, R75, R84, R85, R87, R95, R158, R166: a ram sample. With no job running it is taken and nothing more
(`ramSampled`, which holds the model's measure of time, notes/assumptions/1.md and 7.md, and the course of the ramp output,
notes/assumptions/6.md, toward the position at which the stroke state or the step in hand has it come to rest). With a job
running it also raises the peaks, and enters the ram channel while binning is active, in every phase of the monitor; outside
PRESSING that is all. While a PROBE is in hand and binning is not yet active, a value below the touch threshold does no more
than raise the peaks. -/
def Obligations.RamSamplesAreTaken : Prop :=
  ∀ (raw enc : Int) (s : State),
    let value := ramForce s.motion.ramOffset raw
    let taken := ramSampled raw enc s
    let probing := ∃ h, s.inHand = some h ∧ bodyKind h.record.body = .probe
    (s.motion.stroke = .retracting → s.aim = some 0)
    ∧ (∀ h, s.motion.stroke = .running → s.inHand = some h → s.aim = match h.record.body with
      | .move t _ => some (t : Int)
      | .retract t _ => some (t : Int)
      | .probe l _ _ _ => some (l : Int)
      | .press _ _ => none
      | .dwell _ => none)
    ∧ (s.motion.stroke ≠ .retracting → s.motion.stroke ≠ .running → s.aim = none)
    ∧ (s.run = none → exec (.ramSample raw enc) s = .next taken.arbiters)
    ∧ (s.run ≠ none → ¬ probing → s.monitor.phase ≠ .pressing → exec (.ramSample raw enc) s = .next (State.arbiters
        { taken with profile := if s.profile.binning then
            (taken.profile.binRam (enc - s.motion.zero) value (decide (60000 ≤ raw - s.motion.ramOffset))).1
          else taken.profile }))
    ∧ (∀ rec, probing → s.profile.binning = false →
        s.store.records.find? (fun q => decide (q.state = .opened)) = some rec → value < rec.copy.entry.touch →
        exec (.ramSample raw enc) s = .next taken.arbiters)

/-- R89 to R91: the first ram sample at or above the touch threshold while a PROBE step is in hand. Inside the window the
touch bases are taken, binning begins with the sample in bin 0 and the step ends TOUCHED; outside it ends TOUCH_WINDOW, at the
touching sample's position, which is inferred (notes/assumptions/23.md). The times and the ramp output counted in ram samples are
the model's measure (notes/assumptions/1.md, notes/assumptions/6.md). -/
def Obligations.TouchEndsTheProbe : Prop :=
  ∀ (raw enc : Int) (j : Job) (r : Run) (h : InHand) (rec : Record) (limit speed lo hi cols : Nat) (s : State),
    s.job = some j → j.run = some r → r.inHand = some h → h.record.body = .probe limit speed lo hi →
    s.store.records.find? (fun q => decide (q.state = .opened)) = some rec →
    s.profile.channels = List.replicate (cols + 1) [] → s.profile.leading = none → s.profile.deepest = none →
    s.profile.binning = false →
    let value := ramForce s.motion.ramOffset raw
    rec.copy.entry.touch ≤ value →
    let suspect := decide (60000 ≤ raw - s.motion.ramOffset)
    let T := enc - s.motion.zero
    let bases := r.map.map (fun p => ((s.head.entry p).latest).getD { value := 0, suspect := true })
    let h' : InHand := { h with travelled := h.travelled + (enc - s.motion.enc).natAbs, peak := max h.peak value }
    let r' : Run := { r with inHand := some h' }
    let taken := ramSampled raw enc s
    let touched : State := { taken with profile := { taken.profile with touch := some T, touchForce := some value } }
    let records := fun (f : Record → Record) => { s.store with records := taken.store.records.map (fun q =>
      if q.state = .opened then f { q with touch := some T } else q) }
    ((lo : Int) ≤ T ∧ T ≤ hi → ∃ u, exec (.ramSample raw enc) s = .next u.arbiters
      ∧ GoesOn { j with run := some r' } r' h' .touched T { touched with
          store := records (fun q => { q with columns := q.columns.map (fun c => { c with base := bases[c.column - 1]? }) })
          profile := { touched.profile with
            bases := some bases, binning := true, deepest := some 0, leading := some 0
            channels := [(0, { value := value, empty := false, filled := false, suspect := suspect })]
              :: List.replicate cols [] } } u)
    ∧ (T < lo ∨ hi < T → ∃ u, exec (.ramSample raw enc) s = .next u.arbiters
      ∧ Aborted false r' h' .touchWindow T { touched with store := records id } u)

/-- R96 to R98: a sample in the span of the buffer raises its bin, clears its empty and filled flags, adds its suspect mark and
deepens the profile; every other bin of every channel reads as before; outside the span nothing changes. R100: a ram sample
binned deeper than the leading bin L: the bins between take L's value, are filled, and are suspect in a gap of three or more;
the bins from L on are completed in ascending order, each reported with its number, value and suspect flag; the leading bin
moves. A ram sample at or above the leading bin completes nothing; the first makes its bin the leading one. -/
def Obligations.SamplesAreBinned : Prop :=
  (∀ (p : Profile) (ch value : Nat) (position T : Int) (suspect : Bool), p.touch = some T → ch < p.channels.length →
      (0 ≤ position - T ∧ position - T ≤ 3999 →
        let b := ((position - T) / 5).toNat
        let old := binRead (p.channel ch) b
        let q := p.bin ch position value suspect
        binRead (q.channel ch) b = { value := max old.value value, empty := false, filled := false
                                     suspect := old.suspect || suspect }
        ∧ (∀ c i, (c ≠ ch ∨ i ≠ b) → binRead (q.channel c) i = binRead (p.channel c) i)
        ∧ q.deepest = some (max (p.deepest.getD 0) b)
        ∧ q = { p with channels := q.channels, deepest := q.deepest })
      ∧ ((position - T < 0 ∨ 4000 ≤ position - T) → p.bin ch position value suspect = p))
  ∧ (∀ (p : Profile) (value b : Nat) (position T : Int) (suspect : Bool), p.touch = some T → b < 800 →
      5 * (b : Int) ≤ position - T → position - T ≤ 5 * b + 4 →
      let out := p.binRam position value suspect
      (p.leading = none → out = ({ p.bin 0 position value suspect with leading := some b }, []))
      ∧ (∀ L, p.leading = some L → b ≤ L → out = (p.bin 0 position value suspect, []))
      ∧ (∀ L, p.leading = some L → L < b → p.channels ≠ [] → (∀ i, L < i → binRead (p.channel 0) i = emptyBin) →
        let held := (binRead (p.channel 0) L).value
        (∀ i, L < i → i < b → binRead (out.1.channel 0) i =
          { value := held, empty := false, filled := true, suspect := decide (3 ≤ b - L - 1) })
        ∧ binRead (out.1.channel 0) b = { value := value, empty := false, filled := false, suspect := suspect }
        ∧ (∀ c i, (c ≠ 0 ∨ i ≤ L ∨ b < i) → binRead (out.1.channel c) i = binRead (p.channel c) i)
        ∧ out.1.leading = some b ∧ out.1.deepest = some (max (p.deepest.getD 0) b)
        ∧ out.2 = (List.range' L (b - L)).map (fun i => { bin := i, value := held, suspect :=
            if i = L then (binRead (p.channel 0) L).suspect else decide (3 ≤ b - L - 1) })))
  ∧ (∀ (p : Profile) (value : Nat) (position T : Int) (suspect : Bool), p.touch = some T →
      (position - T < 0 ∨ 4000 ≤ position - T) → p.binRam position value suspect = (p, []))

/-- R101, R102: as the program ends binning stops, the profile is complete and every channel is treated down to the deepest bin
D, with the touch ram force or its column's touch base as its base value; with no deepest bin no bin changes. In a treated
channel no bin 0 to D is left empty; a bin that held a value keeps it; an empty bin takes the value of the nearest lower bin, bin
0 the base value, and is marked filled; a bin deeper than D reads as before. The gap marking: an empty bin's suspect flag after
the treatment is set exactly where it was set, where its run of empty bins among 0 to D is longer than two, or at bin 0 where
the base is suspect. -/
def Obligations.EndTreatmentFillsTheChannel : Prop :=
  (∀ p : Profile,
      let stopped : Profile := { p with binning := false, complete := true }
      (p.deepest = none → p.close = stopped)
      ∧ (∀ D, p.deepest = some D → p.close = { stopped with channels := p.close.channels }
        ∧ p.close.channels.length = p.channels.length
        ∧ (∀ c, p.channels[0]? = some c →
            p.close.channels[0]? = some (treatChannel { value := p.touchForce.getD 0, suspect := false } D c))
        ∧ (∀ bases i c, p.bases = some bases → i < bases.length → p.channels[i + 1]? = some c → ∀ base, bases[i]? = some base →
            p.close.channels[i + 1]? = some (treatChannel base D c))))
  ∧ (∀ (base : FingerSample) (D : Nat) (c : Bins),
      let t := treatChannel base D c
      (∀ b, b ≤ D → (binRead c b).empty = false → binRead t b = binRead c b)
      ∧ (∀ b, b ≤ D → (binRead t b).empty = false)
      ∧ (∀ b, b ≤ D → (binRead c b).empty = true → (binRead t b).filled = true
          ∧ (binRead t b).value = if b = 0 then base.value else (binRead t (b - 1)).value)
      ∧ (∀ b, D < b → binRead t b = binRead c b))
  ∧ (∀ (base : FingerSample) (D b lo hi : Nat) (c : Bins), lo ≤ b → b ≤ hi → hi ≤ D →
      (∀ i, lo ≤ i → i ≤ hi → (binRead c i).empty = true) →
      (lo = 0 ∨ (binRead c (lo - 1)).empty = false) → (hi = D ∨ (binRead c (hi + 1)).empty = false) →
      (binRead (treatChannel base D c) b).suspect =
        ((binRead c b).suspect || decide (2 < hi + 1 - lo) || (decide (b = 0) && base.suspect)))

/-- R95, R108, R109, R114 to R116: a ram sample in PRESSING, taken and binned while binning is active, then the three ram tests
in order: a value above the applied ram cap; the first completed bin whose rise over ten bins reaches the knee rise from the
search start on, whose onset depth against the seat band gives the end and the seat depth; the overtravel depth. Where none
ends the step the press goes on. The times and the ramp output counted in ram samples are the model's measure
(notes/assumptions/1.md, notes/assumptions/6.md). -/
def Obligations.RamTestsEndThePress : Prop :=
  ∀ (raw enc T : Int) (j : Job) (r : Run) (h : InHand) (cap : Nat) (lim : Limits) (s : State),
    s.job = some j → j.run = some r → r.inHand = some h → bodyKind h.record.body = .press → s.monitor.phase = .pressing →
    s.monitor.ramCap = some cap → s.monitor.limits = some lim → s.profile.touch = some T →
    let value := ramForce s.motion.ramOffset raw
    let position := enc - s.motion.zero
    let h' : InHand := { h with travelled := h.travelled + (enc - s.motion.enc).natAbs, peak := max h.peak value }
    let r' : Run := { r with inHand := some h' }
    let taken := ramSampled raw enc s
    let out := if s.profile.binning
      then taken.profile.binRam position value (decide (60000 ≤ raw - s.motion.ramOffset)) else (taken.profile, [])
    let fed : State := { taken with profile := out.1 }
    let ends := fun (c : EndCause) (v : State) => ∃ u, Aborted false r' h' c position v u
      ∧ exec (.ramSample raw enc) s = .next u.arbiters
    let passes := fun c : Completion => 10 ≤ c.bin ∧ lim.searchStart ≤ 5 * (c.bin - 10)
      ∧ (binRead (out.1.channel 0) (c.bin - 10)).value + lim.kneeRise ≤ c.value
    (cap < value → ends .forceCap fed)
    ∧ (value ≤ cap → ∀ pre c post, out.2 = pre ++ c :: post → (∀ x ∈ pre, ¬ passes x) → passes c →
        let depth := 5 * (c.bin - 10)
        let found : State := { fed with monitor := { s.monitor with knee := some (c.bin - 10), seat := some depth } }
        let seated : State := { found with store := { fed.store with records := fed.store.records.map (fun q =>
          if q.state = .opened then { q with seat := some depth } else q) } }
        (depth < lim.bandLow → ends .earlySeat seated)
        ∧ (lim.bandLow ≤ depth → depth ≤ lim.bandHigh → ∃ u,
            GoesOn { j with run := some r' } r' h' .seated position seated u
            ∧ exec (.ramSample raw enc) s = .next u.arbiters)
        ∧ (lim.bandLow ≤ depth → lim.bandHigh < depth → ends .overtravel found))
    ∧ (value ≤ cap → (∀ x ∈ out.2, ¬ passes x) →
        ((lim.overtravel : Int) ≤ position - T → ends .overtravel fed)
        ∧ (position - T < lim.overtravel → exec (.ramSample raw enc) s = .next fed.arbiters))

/-- R93, R98, R100: the profile buffer's canonical form and the range of its marks hold in every step. -/
def Obligations.ProfileStaysCanonical : Prop :=
  ∀ s t : State, ProfileSound s → step s = .next t → ProfileSound t

/-! ## Verdicts, records and holds (chapters 7 to 9) -/

/-- R119 to R133: what the judgement writes for a column. Its rank results are one for each rank present, ascending, each with its
pin count; carry, peak, step and share stand for a complete window of a JUDGED column alone, the window running from the onset
bin to the full last bin or to the bin before the next rank present (R122, R123). The hold force and hold verdict are those of a
JUDGED column with pins in a SEATED press, and otherwise absent and UNJUDGED. The pin at a column and a row has the verdict of
R132's orders, and no other stands for it. `k` is the knee onset bin, which a SEATED press has (R121). -/
def Obligations.PinVerdictsFollowTheOrders : Prop :=
  ∀ (p : Profile) (knee : Option Nat) (k m : Nat) (r : Record) (col : ColumnResult), r.columns[m]? = some col →
    let pressed := (r.outcomes.find? (fun o => o.kind = .press)).map (·.cause)
    (pressed = some .seated → knee = some k) →
    let judged := judge p knee r
    let e := r.copy.entry
    let pins := columnPins e col.column
    let bin := binRead (p.channel col.column)
    let first := fun x : Nat => onsetOf e x / 5
    let last := fun (x : Nat) (cls : ClassEntry) =>
      let full := first x + cls.engage / 5 - 1
      match (List.range' 1 e.ranks).find? (fun y => decide (x < y ∧ ∃ q ∈ pins, q.rank = y)) with
      | none => full
      | some y => min full (first y - 1)
    let count := fun x : Nat => (pins.filter (fun q => q.rank = x)).length
    let carry := fun x : Nat => if first x = 0 then
        (p.bases.bind (fun bs => bs[col.column - 1]?)).getD { value := 0, suspect := true }
      else ({ value := (bin (first x - 1)).value, suspect := (bin (first x - 1)).suspect } : FingerSample)
    let peak := fun (x : Nat) (cls : ClassEntry) =>
      maxOf ((List.range' (first x) (last x cls + 1 - first x)).map (fun b => (bin b).value))
    let share := fun (x : Nat) (cls : ClassEntry) => (2 * (peak x cls - (carry x).value) + count x) / (2 * count x)
    let complete := fun (x : Nat) (cls : ClassEntry) => pressed ≠ none ∧ ∃ b, p.pressEnd = some b ∧ last x cls < b
    let suspect := fun (x : Nat) (cls : ClassEntry) =>
      (carry x).suspect = true ∨ ∃ b, first x ≤ b ∧ b ≤ last x cls ∧ (bin b).suspect = true
    let bare := fun x : Nat => ({ rank := x, pins := count x, carry := none, peak := none, step := none, share := none,
                                  verdict := .unjudged } : RankResult)
    let hold := bin (k - 1)
    let low := (pins.map (fun q => ((tabGet r.copy.classes q.cls).map (·.holdMin)).getD 0)).sum
    let high := (pins.map (fun q => ((tabGet r.copy.classes q.cls).map (·.holdMax)).getD 0)).sum
    (∃ out, judged.columns[m]? = some out ∧ judged.columns.length = r.columns.length
      ∧ out = { col with ranks := out.ranks, hold := out.hold, holdVerdict := out.holdVerdict }
      ∧ out.ranks.map (·.rank) = (List.range' 1 e.ranks).filter (fun x => decide (∃ q ∈ pins, q.rank = x))
      ∧ (∀ t ∈ out.ranks, (col.judged = false ∨ pressed = none) → t = bare t.rank)
      ∧ (∀ t ∈ out.ranks, ∀ q rest cls, pins.filter (fun q => q.rank = t.rank) = q :: rest →
          tabGet r.copy.classes q.cls = some cls →
          (¬ complete t.rank cls → t = bare t.rank)
          ∧ (col.judged = true → complete t.rank cls → ∃ v, t = {
                rank := t.rank, pins := count t.rank, carry := some (carry t.rank).value, peak := some (peak t.rank cls)
                step := some (peak t.rank cls - (carry t.rank).value), share := some (share t.rank cls), verdict := v }
            ∧ (suspect t.rank cls → v = .suspect)
            ∧ (¬ suspect t.rank cls → cls.entryMax < share t.rank cls → v = .highEntry)
            ∧ (¬ suspect t.rank cls → share t.rank cls ≤ cls.entryMax → share t.rank cls < cls.entryMin → v = .lowEntry)
            ∧ (¬ suspect t.rank cls → share t.rank cls ≤ cls.entryMax → cls.entryMin ≤ share t.rank cls → v = .pass)))
      ∧ ((pressed ≠ some .seated ∨ col.judged = false ∨ pins = []) → out.hold = none ∧ out.holdVerdict = some .unjudged)
      ∧ (pressed = some .seated → col.judged = true → pins ≠ [] → out.hold = some hold.value
        ∧ (hold.suspect = true → out.holdVerdict = some .suspect)
        ∧ (hold.suspect = false → high < hold.value → out.holdVerdict = some .holdHigh)
        ∧ (hold.suspect = false → hold.value ≤ high → hold.value < low → out.holdVerdict = some .holdLow)
        ∧ (hold.suspect = false → hold.value ≤ high → low ≤ hold.value → out.holdVerdict = some .pass)))
    ∧ (∀ (i : Nat) (pin q : PinCell) (rest : List PinCell) (cls : ClassEntry), (r.columns.map (·.column)).Nodup →
      (i, pin) ∈ columnRows e col.column → 1 ≤ pin.rank → pin.rank ≤ e.ranks →
      pins.filter (fun q => q.rank = pin.rank) = q :: rest → tabGet r.copy.classes q.cls = some cls →
      let given := fun v : Verdict => { column := col.column, row := i, verdict := v } ∈ judged.pins
        ∧ ∀ q ∈ judged.pins, q.column = col.column → q.row = i → q.verdict = v
      (col.judged = false ∨ ¬ complete pin.rank cls → given .unjudged)
      ∧ (col.judged = true → complete pin.rank cls →
        (suspect pin.rank cls → given .suspect)
        ∧ (¬ suspect pin.rank cls → cls.entryMax < share pin.rank cls → given .highEntry)
        ∧ (¬ suspect pin.rank cls → share pin.rank cls ≤ cls.entryMax → share pin.rank cls < cls.entryMin → given .lowEntry)
        ∧ (¬ suspect pin.rank cls → share pin.rank cls ≤ cls.entryMax → cls.entryMin ≤ share pin.rank cls →
          (pressed ≠ some .seated → given .unjudged)
          ∧ (pressed = some .seated →
            (hold.suspect = true → given .suspect)
            ∧ (hold.suspect = false → high < hold.value → given .holdHigh)
            ∧ (hold.suspect = false → hold.value ≤ high → hold.value < low → given .holdLow)
            ∧ (hold.suspect = false → hold.value ≤ high → low ≤ hold.value → given .pass)))))

/-- R121, R128, R133, R134: the press verdict by the orders of R134; one pin verdict for each populated pin, by column and row;
a share is the step force over the pin count, rounded half up. -/
def Obligations.PressVerdictFollowsTheOrders : Prop :=
  (∀ (p : Profile) (knee : Option Nat) (r : Record),
    let judged := judge p knee r
    let pressed := (r.outcomes.find? (fun o => o.kind = .press)).map (·.cause)
    let failing := ∃ q ∈ judged.pins,
      q.verdict = .lowEntry ∨ q.verdict = .highEntry ∨ q.verdict = .holdLow ∨ q.verdict = .holdHigh
    let rejects := pressed = some .earlySeat ∨ pressed = some .overtravel ∨ pressed = some .forceCap ∨ failing
    (rejects → judged.verdict = some .reject)
    ∧ (¬ rejects → pressed ≠ some .seated → judged.verdict = some .incomplete)
    ∧ (¬ rejects → pressed = some .seated → (∃ q ∈ judged.pins, q.verdict ≠ .pass) → judged.verdict = some .review)
    ∧ (pressed = some .seated → (∀ q ∈ judged.pins, q.verdict = .pass) → judged.verdict = some .accept)
    ∧ (r.columns.map (·.column) = List.range' 1 r.copy.entry.cols →
        judged.pins.map (fun q => (q.column, q.row)) = (List.range' 1 r.copy.entry.cols).flatMap (fun c =>
          (columnRows r.copy.entry c).map (fun x => (c, x.1)))
        ∧ judged.pins.length = pinCount r.copy.entry))
  ∧ ∀ step n, 0 < n → 2 * n * shareOf step n ≤ 2 * step + n ∧ 2 * step + n < 2 * n * (shareOf step n + 1)

/-- R137, R138, R142, R157: the store's capacity, the distinct press numbers and their range, at most one OPEN record and at
most one HELD, and the held press number hold in every step. -/
def Obligations.StoreStaysSound : Prop :=
  ∀ s t : State, StoreSound s → step s = .next t → StoreSound t

/-- R103, R104, R145 to R148: the reads of the result store and PROFILE READ, which change nothing: the directory, a record's
header, tally and outcomes, a column, a column's pins, and the bins of a channel. The wire layout is the model's choice
where R172 leaves it open: the directory's count sent twice, the four bytes of the travelled distance, the one byte of the
head kind (notes/assumptions/14.md). -/
def Obligations.StoreAndProfileReadsAnswer : Prop :=
  (∀ (h : Header) (press first column : Nat) (s : State),
      let found := s.store.records.find? (fun r => r.press = press)
      (admitted h (.resultSummary press first) s = true →
        (press = 0 → exec (.resultSummary h press first) s = answered h .ok
          ([Wire.u8 s.store.records.length, Wire.u16 s.store.next, Wire.u8 s.store.records.length]
            ++ s.store.records.flatMap (fun r =>
              [Wire.u16 r.press, Wire.u8 (recordStateCode r.state)] ++ opt8 (r.verdict.map pressVerdictCode))) (heard h s))
        ∧ (press ≠ 0 → 15 < first → exec (.resultSummary h press first) s = refusedWith h .badField s)
        ∧ (press ≠ 0 → first ≤ 15 → found = none → exec (.resultSummary h press first) s = refusedWith h .notFound s)
        ∧ (press ≠ 0 → first ≤ 15 → ∀ r, found = some r →
          let later := r.outcomes.filter (fun o => first ≤ o.index)
          let tally := fun v => (r.pins.filter (fun q => q.verdict = v)).length
          exec (.resultSummary h press first) s = answered h .ok
            ([Wire.u16 r.press, Wire.u8 (recordStateCode r.state), Wire.u16 r.typeId, Wire.text r.serial, Wire.u8 r.first,
              Wire.u8 (orientationCode r.orientation), Wire.u8 r.headKind, Wire.u8 (levelCode r.level), Wire.flag r.audit,
              Wire.u8 (widthLanes r.width)]
              ++ optPos r.touch ++ opt32 r.seat ++ opt8 (r.cause.map causeCode) ++ opt8 (r.verdict.map pressVerdictCode)
              ++ [Wire.u16 r.peak, Wire.flag r.disposition.isSome, Wire.u8 ((r.disposition.map (fun d => disposeCode d.outcome)).getD 0),
                  Wire.u16 ((r.disposition.map (·.operator)).getD 0), Wire.u8 r.copy.entry.cols, Wire.u16 (pinCount r.copy.entry)]
              ++ (if r.state = .opened then Wire.flag false :: List.replicate 7 (Wire.u16 0) else
                  [Wire.flag true, Wire.u16 (tally .pass), Wire.u16 (tally .lowEntry), Wire.u16 (tally .highEntry), Wire.u16 (tally .holdLow),
                   Wire.u16 (tally .holdHigh), Wire.u16 (tally .suspect), Wire.u16 (tally .unjudged)])
              ++ [Wire.u8 r.outcomes.length, Wire.u8 (later.take 8).length]
              ++ (later.take 8).flatMap (fun o =>
                [Wire.u8 o.index, Wire.u8 (kindCode o.kind), Wire.u8 (causeCode o.cause), Wire.s32 o.start, Wire.s32 o.stop, Wire.u32 o.travelled,
                 Wire.u16 o.peak] ++ opt16 o.speedUsed ++ [Wire.flag o.clamped.isSome, Wire.flag (o.clamped.getD false)])) (heard h s)))
      ∧ (admitted h (.resultColumn press column) s = true →
        (press = 0 ∨ 65535 < press → exec (.resultColumn h press column) s = refusedWith h .badField s)
        ∧ (1 ≤ press → press ≤ 65535 → found = none → exec (.resultColumn h press column) s = refusedWith h .notFound s)
        ∧ (1 ≤ press → press ≤ 65535 → ∀ r, found = some r →
          (column = 0 ∨ r.copy.entry.cols < column → exec (.resultColumn h press column) s = refusedWith h .badField s)
          ∧ (1 ≤ column → column ≤ r.copy.entry.cols → ∀ c, r.columns.find? (fun c => c.column = column) = some c →
            exec (.resultColumn h press column) s = answered h .ok
              ([Wire.u8 column, Wire.u8 c.position, Wire.u8 (if c.judged then 0 else 1), Wire.flag c.base.isSome,
                Wire.u16 ((c.base.map (·.value)).getD 0), Wire.flag ((c.base.map (·.suspect)).getD false),
                Wire.u8 (columnPinCount r.copy.entry column)] ++ opt16 c.hold ++ opt8 (c.holdVerdict.map verdictCode)
                ++ [Wire.u8 c.ranks.length] ++ c.ranks.flatMap (fun q =>
                  [Wire.u8 q.rank, Wire.u8 q.pins] ++ opt16 q.carry ++ opt16 q.peak ++ opt16 q.step ++ opt16 q.share
                    ++ [Wire.u8 (verdictCode q.verdict), Wire.u8 (rankClass r.copy.entry column q.rank)])) (heard h s))))
      ∧ (admitted h (.resultPins press column) s = true →
        (press = 0 ∨ 65535 < press → exec (.resultPins h press column) s = refusedWith h .badField s)
        ∧ (1 ≤ press → press ≤ 65535 → found = none → exec (.resultPins h press column) s = refusedWith h .notFound s)
        ∧ (1 ≤ press → press ≤ 65535 → ∀ r, found = some r →
          (column = 0 ∨ r.copy.entry.cols < column → exec (.resultPins h press column) s = refusedWith h .badField s)
          ∧ (1 ≤ column → column ≤ r.copy.entry.cols →
            let pins := if r.state = .opened then [] else r.pins.filter (fun q => q.column = column)
            let rank := fun row => (((columnRows r.copy.entry column).find? (fun q => q.1 = row)).map (·.2.rank)).getD 0
            exec (.resultPins h press column) s = answered h .ok
              ([Wire.flag (decide (r.state ≠ .opened)), Wire.u8 (columnPinCount r.copy.entry column), Wire.u8 pins.length]
                ++ pins.flatMap (fun q => [Wire.u8 q.row, Wire.u8 (rank q.row), Wire.u8 (verdictCode q.verdict)])) (heard h s)))))
  ∧ (∀ (h : Header) (ch first n : Nat) (s : State), admitted h (.profileRead ch first n) s = true →
      let fits := ch ≤ s.profile.cols.getD 0 ∧ 1 ≤ n ∧ n ≤ 100 ∧ first + n ≤ 800
      let channel := if ch = 0 then opt16 s.profile.touchForce
        else Wire.u8 (s.profile.map.getD (ch - 1) 0) :: sampleWire (s.profile.bases.bind (fun bs => bs[ch - 1]?))
      (s.run ≠ none → exec (.profileRead h ch first n) s = refusedWith h .busy s)
      ∧ (s.run = none → s.profile.complete = false → exec (.profileRead h ch first n) s = refusedWith h .notFound s)
      ∧ (s.run = none → s.profile.complete = true → ¬ fits → exec (.profileRead h ch first n) s = refusedWith h .badField s)
      ∧ (s.run = none → s.profile.complete = true → fits → exec (.profileRead h ch first n) s = answered h .ok
          ([Wire.u16 (s.profile.press.getD 0), Wire.u16 (s.profile.typeId.getD 0), Wire.u8 (s.profile.cols.getD 0)]
            ++ optPos s.profile.touch ++ opt16 s.profile.deepest ++ opt16 s.profile.pressEnd ++ channel ++ [Wire.u8 n]
            ++ (List.range' first n).flatMap (fun b =>
              let bin := binRead (s.profile.channel ch) b
              [Wire.u16 bin.value, Wire.flag bin.empty, Wire.flag bin.filled, Wire.flag bin.suspect])) (heard h s)))

/-- R149: RESULT RELEASE. -/
def Obligations.ReleaseRemovesTheRecord : Prop :=
  ∀ (h : Header) (press : Nat) (s : State),
    (admitted h (.resultRelease press) s = true →
      let found := s.store.records.find? (fun r => r.press = press)
      (press = 0 ∨ 65535 < press → exec (.resultRelease h press) s = refusedWith h .badField s)
      ∧ (1 ≤ press → press ≤ 65535 →
        (found = none → exec (.resultRelease h press) s = refusedWith h .notFound s)
        ∧ ∀ r, found = some r →
          (r.state = .opened → exec (.resultRelease h press) s = refusedWith h .busy s)
          ∧ (r.state = .held → exec (.resultRelease h press) s = refusedWith h .held s)
          ∧ (r.state ≠ .opened → r.state ≠ .held → (s.store.records.map (·.press)).Nodup → ∃ before after,
              s.store.records = before ++ r :: after ∧ exec (.resultRelease h press) s = answered h .ok
                [.u8 (s.store.records.length - 1)]
                { heard h s with store := { s.store with records := before ++ after } })))
    ∧ (h.link = .line → s.line.replies.length < 8 → h.len = 2 →
        exec (.resultRelease h press) s = refusedWith h .notPermitted s)

/-- R152 to R154: QUALIFY's checks in order and what it does by level and by the entry present; QUALIFY GET. The codes of the
level and of the result, and the one byte of the audit interval and of the head kind, are the model's choice
(notes/assumptions/14.md). -/
def Obligations.QualifyEditsTheTable : Prop :=
  ∀ (h : Header) (id kind code n : Nat) (s : State),
    let key := 16 * id + kind
    let fits := 1 ≤ id ∧ id ≤ 9999 ∧ 1 ≤ kind ∧ kind ≤ 15
    (admitted h (.qualify id kind code n) s = true →
      let fields := fits ∧ code ≤ 3 ∧ (code = 3 ∨ 1 ≤ n ∧ n ≤ 99)
      (¬ fields → exec (.qualify h id kind code n) s = refusedWith h .badField s)
      ∧ (fields → tabGet s.cat.types id = none → exec (.qualify h id kind code n) s = refusedWith h .notFound s)
      ∧ (fields → tabGet s.cat.types id ≠ none →
        (code = 3 → tabGet s.qual.table key = none →
          exec (.qualify h id kind code n) s = answered h .ok [.u8 3, .u8 s.qual.table.length] (heard h s))
        ∧ (code = 3 → tabGet s.qual.table key ≠ none → ∃ table, tabGet table key = none
            ∧ (∀ k, k ≠ key → tabGet table k = tabGet s.qual.table k)
            ∧ exec (.qualify h id kind code n) s = answered h .ok [.u8 2, .u8 table.length]
              { heard h s with qual := { s.qual with table := table } })
        ∧ (code ≠ 3 → tabGet s.qual.table key = none → 128 ≤ s.qual.table.length →
            exec (.qualify h id kind code n) s = refusedWith h .full s)
        ∧ (∀ v, (code, v) ∈ [(0, Level.q1), (1, .q2), (2, .qp)] →
            (tabGet s.qual.table key ≠ none ∨ s.qual.table.length < 128) →
            ∃ table, tabGet table key = some { level := v, interval := n, count := 0 }
              ∧ (∀ k, k ≠ key → tabGet table k = tabGet s.qual.table k)
              ∧ (tabSorted s.qual.table = true → tabSorted table = true)
              ∧ exec (.qualify h id kind code n) s = answered h .ok
                [.u8 (if tabGet s.qual.table key = none then 0 else 1), .u8 table.length]
                { heard h s with qual := { s.qual with table := table } })))
    ∧ (admitted h (.qualifyGet id kind) s = true →
      (id = 0 → exec (.qualifyGet h id kind) s = answered h .ok
        (.u8 s.qual.table.length :: s.qual.table.flatMap (fun e => [.u16 (e.1 / 16), .u8 (e.1 % 16),
          .u8 (levelCode e.2.level), .u8 e.2.interval, .u8 e.2.count])) (heard h s))
      ∧ (id ≠ 0 → ¬ fits → exec (.qualifyGet h id kind) s = refusedWith h .badField s)
      ∧ (fits → tabGet s.qual.table key = none → exec (.qualifyGet h id kind) s = refusedWith h .notFound s)
      ∧ (fits → ∀ q, tabGet s.qual.table key = some q → exec (.qualifyGet h id kind) s = answered h .ok
          [.u8 (levelCode q.level), .u8 q.interval, .u8 q.count] (heard h s)))

/-- R158 to R160: DISPOSE's checks in order, and the hold it ends; the expiry of the hold-overdue timer, whose notice is raised
once; HOLD TIME. -/
def Obligations.HoldEndsWithADisposition : Prop :=
  ∀ (h : Header) (press code operator seconds : Nat) (s : State),
    let found := s.store.records.find? (fun r => r.press = press)
    (admitted h (.dispose press code operator) s = true →
      let fields := 1 ≤ press ∧ press ≤ 65535 ∧ code ≤ 2 ∧ operator ≤ 9999
      (¬ fields → exec (.dispose h press code operator) s = refusedWith h .badField s)
      ∧ (fields → found = none → exec (.dispose h press code operator) s = refusedWith h .notFound s)
      ∧ (fields → ∀ r, found = some r → r.state ≠ .held →
          exec (.dispose h press code operator) s = refusedWith h .notHeld s)
      ∧ (fields → ∀ r o, found = some r → r.state = .held →
          (code, o) ∈ [(0, DisposeOutcome.accepted), (1, .rework), (2, .scrap)] →
          exec (.dispose h press code operator) s = answered h .ok [.u16 press] { heard h s with
            store := { s.store with records := s.store.records.map (fun q => if q.press = press then
              { q with disposition := some { outcome := o, operator := operator }, state := .disposed } else q) }
            qual := { s.qual with
              held := none, timer := .stopped, remaining := none, overdue := false, startedWith := none } }))
    ∧ (∀ r v t, s.qual.timer = .running → s.qual.held = some press → found = some r → r.verdict = some v →
        s.qual.startedWith = some t →
        let expired : State := { s with qual := { s.qual with timer := .expired, remaining := none, overdue := true } }
        (s.qual.overdue = false →
          exec .holdOverdue s = .next (State.arbiters (expired.raise (.holdOverdue press v r.audit t))))
        ∧ (s.qual.overdue = true → exec .holdOverdue s = .next expired.arbiters))
    ∧ (s.qual.timer ≠ .running → exec .holdOverdue s = .next s.arbiters)
    ∧ (admitted h (.holdTime seconds) s = true →
      (seconds = 0 → exec (.holdTime h seconds) s = answered h .ok [.u16 s.qual.holdTime] (heard h s))
      ∧ (10 ≤ seconds → seconds ≤ 600 → exec (.holdTime h seconds) s = answered h .ok [.u16 seconds]
          { heard h s with qual := { s.qual with holdTime := seconds } })
      ∧ ((1 ≤ seconds ∧ seconds ≤ 9 ∨ 600 < seconds) → exec (.holdTime h seconds) s = refusedWith h .badField s))

/-! ## The guards (chapter 10) -/

/-- R163 to R169: a change of an input's debounced state: with the ram at rest outside a program, the set, the marks and the
notices of R166; in RETRACTING, the entry also ends the retract, an ESTOP input as an enable-drop stop; in STOPPING, an ESTOP
input makes the stop an enable-drop stop, and another changes nothing of it; an input already in the set enters nothing; a
leaving resumes nothing. R67, R168: enable is off while an ESTOP input is in the set, and otherwise as the stroke state gives.
The time in GUARD_CLOSED is the model's measure (notes/assumptions/1.md). -/
def Obligations.GuardChangesTheOpenSet : Prop :=
  (∀ (i : Nat) (enc : Int) (s : State), 1 ≤ i → i ≤ 8 → s.guards.states.length = 8 →
    let kind := s.guards.kind i
    let opens := { s.guards with states := s.guards.states.set (i - 1) .opened }
    let closes := { s.guards with states := s.guards.states.set (i - 1) .closed }
    let entered := if s.openSet = [] then { opens with firstOpened := some (FirstOpened.input i), openTicks := 0 } else opens
    let raised := fun u : State => if s.openSet = [] then u.raise (.guardOpen i kind [i]) else u
    let m := { s.motion with enc := enc }
    ((i ∈ s.openSet ∨ kind = .absent) →
      exec (.guardInputChange i true enc) s = .next (State.arbiters { latched enc s with guards := opens }))
    ∧ (i ∉ s.openSet → kind ≠ .absent →
      ((s.motion.stroke = .unhomed ∨ s.motion.stroke = .idle ∨ s.motion.stroke = .faulted) →
        exec (.guardInputChange i true enc) s = .next (State.arbiters (raised { latched enc s with guards := entered })))
      ∧ (s.motion.stroke = .stopping → exec (.guardInputChange i true enc) s = .next (State.arbiters (raised
        { latched enc s with
          guards := entered
          motion := if kind = .estop then { m with
            ramp := .zero, stop := s.motion.stop.map (fun r => { r with dropped := true }) } else m })))
      ∧ (s.motion.stroke = .retracting → exec (.guardInputChange i true enc) s = .next (State.arbiters (raised
        { latched enc s with
          guards := entered
          motion := { m with
            stroke := .stopping, commanded := 0, phase := .none
            ramp := if kind = .estop then .zero else slowRamp 2000 s.motion.ramp
            stop := some {
              cause := .cause .guard, dropped := decide (kind = .estop), follow := .idle
              rate := if kind = .estop then 2000 else rateInForce 2000 s.motion.ramp } } }))))
    ∧ (s.openSet = [i] →
      exec (.guardInputChange i false enc) s = .next (State.arbiters (State.raise
        { latched enc s with guards := { closes with firstOpened := none, lastClosed := some i } }
        (.guardClosed i kind (if s.guards.firstOpened = some .reset then 0 else s.guards.openTicks / 10)))))
    ∧ (s.openSet ≠ [i] →
      exec (.guardInputChange i false enc) s = .next (State.arbiters { latched enc s with guards := closes })))
  ∧ (∀ s : State,
      ((∃ i ∈ s.openSet, s.guards.kind i = .estop) → s.enable = false)
      ∧ ((∀ i ∈ s.openSet, s.guards.kind i ≠ .estop) → s.enable = match s.motion.stroke with
        | .unhomed => false
        | .faulted => false
        | .stopping => (match s.motion.stop with
          | some r => !r.dropped
          | none => true)
        | _ => true))

/-- R170, R171: GUARD CONFIG's checks in order, the kinds it sets, the set brought into line with them, and at most one notice.
The kind that GUARD_CLOSED carries (notes/assumptions/31.md), its time in ram samples (notes/assumptions/1.md), the reply that
leaves before the notice (notes/assumptions/9.md), and the one-byte first-opened mark and the eight pairs without a count
(notes/assumptions/14.md) are the model's choices. -/
def Obligations.GuardConfigSetsTheKinds : Prop :=
  ∀ (h : Header) (codes : List Nat) (s : State), admitted h (.guardConfig codes) s = true → codes.length = 8 →
    let reply := fun g : Guards => (List.range' 1 8).flatMap (fun i =>
      [Wire.u8 (guardKindCode (g.kind i)), Wire.u8 (debouncedCode (g.state i))])
      ++ [Wire.set g.openSet] ++ opt8 (g.firstOpened.map markCode) ++ opt8 g.lastClosed
    let fields := ∀ c ∈ codes, c ≤ 4
    let keeps := ∀ c ∈ codes, c = 4
    let still := (s.motion.stroke = .unhomed ∨ s.motion.stroke = .idle ∨ s.motion.stroke = .faulted) ∧ s.run = none
    let kindAfter := fun (k : GuardKind) (c : Nat) =>
      if c = 0 then .absent else if c = 1 then .door else if c = 2 then .curtain else if c = 3 then .estop else k
    let cfg : Guards := { s.guards with kinds := s.guards.kinds.zipWith kindAfter codes }
    (¬ fields → exec (.guardConfig h codes) s = refusedWith h .badField s)
    ∧ (keeps → exec (.guardConfig h codes) s = answered h .ok (reply s.guards) (heard h s))
    ∧ (fields → ¬ keeps → ¬ still → exec (.guardConfig h codes) s = refusedWith h .busy s)
    ∧ (fields → ¬ keeps → still →
      (∀ i rest, s.openSet = [] → cfg.openSet = i :: rest →
        let g : Guards := { cfg with firstOpened := some (.input i), openTicks := 0 }
        exec (.guardConfig h codes) s = answered h .ok (reply g)
          (State.raise { heard h s with guards := g } (.guardOpen i (cfg.kind i) (i :: rest))))
      ∧ (∀ i before, s.openSet = before ++ [i] → cfg.openSet = [] →
        let g : Guards := { cfg with firstOpened := none, lastClosed := some i }
        exec (.guardConfig h codes) s = answered h .ok (reply g)
          (State.raise { heard h s with guards := g } (.guardClosed i (s.guards.kind i)
            (if s.guards.firstOpened = some .reset then 0 else s.guards.openTicks / 10))))
      ∧ ((s.openSet = [] ↔ cfg.openSet = []) →
        exec (.guardConfig h codes) s = answered h .ok (reply cfg) { heard h s with guards := cfg }))
end

