-- ==== Sys2Proof/Laws/Tables.lean ====
section
/-! SUPPORT. The keyed tables of the catalogue and of qualification: what a put and a drop leave to be read, and the order
they keep. -/

namespace Sys2Proof.Machine

variable {α : Type}

/-- A put is read back at its key. -/
theorem tabGet_tabPut_self (t : List (Nat × α)) (k : Nat) (v : α) : tabGet (tabPut t k v) k = some v := by
  induction t with
  | nil => simp [tabPut, tabGet]
  | cons e t ih =>
    simp only [tabPut]
    split
    · simp [tabGet]
    · split
      · simp [tabGet]
      · next h => simp [tabGet, h, ih]

/-- A put leaves every other key as it was. -/
theorem tabGet_tabPut_other (t : List (Nat × α)) (k : Nat) (v : α) {j : Nat} (h : j ≠ k) :
    tabGet (tabPut t k v) j = tabGet t j := by
  induction t with
  | nil => simp [tabPut, tabGet, h]
  | cons e t ih =>
    simp only [tabPut]
    split
    · simp [tabGet, h]
    · split
      · next hk => subst hk; simp [tabGet, h]
      · simp [tabGet, ih]

/-- A dropped key reads as absent. -/
theorem tabGet_tabDrop_self (t : List (Nat × α)) (k : Nat) : tabGet (tabDrop t k) k = none := by
  induction t with
  | nil => rfl
  | cons e t ih =>
    by_cases h : e.1 = k
    · simpa [tabDrop, List.filter_cons, h] using ih
    · simpa [tabDrop, List.filter_cons, h, tabGet, Ne.symm h] using ih

/-- A drop leaves every other key as it was. -/
theorem tabGet_tabDrop_other (t : List (Nat × α)) (k : Nat) {j : Nat} (h : j ≠ k) : tabGet (tabDrop t k) j = tabGet t j := by
  induction t with
  | nil => rfl
  | cons e t ih =>
    by_cases he : e.1 = k
    · simpa [tabDrop, List.filter_cons, he, tabGet, h] using ih
    · simp only [tabDrop, List.filter_cons, ne_eq, he, not_false_eq_true, decide_true, if_true, tabGet]
      split
      · rfl
      · exact ih

/-- A table is sorted exactly when its keys rise strictly. -/
theorem tabSorted_iff (t : List (Nat × α)) : tabSorted t = true ↔ t.Pairwise (fun a b => a.1 < b.1) := by
  induction t with
  | nil => simp [tabSorted]
  | cons a t ih =>
    cases t with
    | nil => simp [tabSorted]
    | cons b t =>
      simp only [tabSorted, Bool.and_eq_true, decide_eq_true_eq, ih]
      constructor
      · rintro ⟨hab, hp⟩
        refine List.pairwise_cons.2 ⟨fun c hc => ?_, hp⟩
        rcases List.mem_cons.1 hc with rfl | hc
        · exact hab
        · exact lt_trans hab ((List.pairwise_cons.1 hp).1 c hc)
      · intro hp
        exact ⟨(List.pairwise_cons.1 hp).1 b List.mem_cons_self, (List.pairwise_cons.1 hp).2⟩

/-- The entries of a table after a put: the new one, and old ones of other keys. -/
theorem mem_tabPut {t : List (Nat × α)} {k : Nat} {v : α} {e : Nat × α} (h : e ∈ tabPut t k v) : e = (k, v) ∨ e ∈ t := by
  induction t with
  | nil => simp_all [tabPut]
  | cons a t ih =>
    simp only [tabPut] at h
    split at h
    · simpa using h
    · split at h
      · rcases List.mem_cons.1 h with h | h
        · exact .inl h
        · exact .inr (List.mem_cons_of_mem _ h)
      · rcases List.mem_cons.1 h with h | h
        · exact .inr (h ▸ List.mem_cons_self)
        · exact (ih h).imp id (List.mem_cons_of_mem _)

/-- A put keeps a table sorted. -/
theorem tabSorted_tabPut {t : List (Nat × α)} (k : Nat) (v : α) (h : tabSorted t = true) : tabSorted (tabPut t k v) = true := by
  rw [tabSorted_iff] at h ⊢
  induction t with
  | nil => simp [tabPut]
  | cons a t ih =>
    obtain ⟨ha, ht⟩ := List.pairwise_cons.1 h
    simp only [tabPut]
    split
    · next hk =>
      refine List.pairwise_cons.2 ⟨fun b hb => ?_, h⟩
      rcases List.mem_cons.1 hb with rfl | hb
      · exact hk
      · exact lt_trans hk (ha b hb)
    · split
      · next hk => exact List.pairwise_cons.2 ⟨fun b hb => by simpa [hk] using ha b hb, ht⟩
      · refine List.pairwise_cons.2 ⟨fun b hb => ?_, ih ht⟩
        rcases mem_tabPut hb with rfl | hb
        · simp only; omega
        · exact ha b hb

/-- A drop keeps a table sorted. -/
theorem tabSorted_tabDrop {t : List (Nat × α)} (k : Nat) (h : tabSorted t = true) : tabSorted (tabDrop t k) = true := by
  rw [tabSorted_iff] at h ⊢
  exact h.filter _

/-- In a sorted table a listed entry is the one read at its key. -/
theorem tabGet_of_mem {t : List (Nat × α)} {k : Nat} {v : α} (h : tabSorted t = true) (hm : (k, v) ∈ t) :
    tabGet t k = some v := by
  rw [tabSorted_iff] at h
  induction t with
  | nil => simp at hm
  | cons a t ih =>
    obtain ⟨ha, ht⟩ := List.pairwise_cons.1 h
    rcases List.mem_cons.1 hm with rfl | hm
    · simp [tabGet]
    · have : ¬ k = a.1 := by have := ha _ hm; simp only at this; omega
      simp [tabGet, this, ih ht hm]

/-- An entry read at a key is listed. -/
theorem mem_of_tabGet {t : List (Nat × α)} {k : Nat} {v : α} (h : tabGet t k = some v) : (k, v) ∈ t := by
  induction t with
  | nil => simp [tabGet] at h
  | cons a t ih =>
    simp only [tabGet] at h
    split at h
    · next hk => simp only [Option.some.injEq] at h; subst hk h; exact List.mem_cons_self
    · exact List.mem_cons_of_mem _ (ih h)

/-- A put adds one entry where the key was absent and none where it was present. -/
theorem length_tabPut {t : List (Nat × α)} {k : Nat} {v : α} (h : tabSorted t = true) :
    (tabPut t k v).length = t.length + (if (tabGet t k).isNone then 1 else 0) := by
  rw [tabSorted_iff] at h
  induction t with
  | nil => simp [tabPut, tabGet]
  | cons a t ih =>
    obtain ⟨ha, ht⟩ := List.pairwise_cons.1 h
    simp only [tabPut, tabGet]
    split
    · next hk =>
      have hn : tabGet t k = none := by
        cases hg : tabGet t k with
        | none => rfl
        | some v => exact absurd (ha _ (mem_of_tabGet hg)) (by simp only; omega)
      have : ¬ k = a.1 := by omega
      simp [this, hn]
    · split
      · simp
      · simp [ih ht]; omega

end Sys2Proof.Machine
end

