-- ==== Sys2Proof/Laws/Bins.lean ====
section
/-! SUPPORT. The channels of the profile buffer: a bin written is read back, every other bin stays, and every operation keeps
the canonical form, in which no empty bin is listed. -/

namespace Sys2Proof.Machine

/-- A bin written reads as written. -/
theorem binRead_binWrite_self (c : Bins) (b : Nat) (v : Bin) : binRead (binWrite c b v) b = v := by
  unfold binRead binWrite
  split
  · next h => simp [tabGet_tabDrop_self, h]
  · simp [tabGet_tabPut_self]

/-- Every other bin reads as before. -/
theorem binRead_binWrite_other (c : Bins) (b : Nat) (v : Bin) {i : Nat} (h : i ≠ b) :
    binRead (binWrite c b v) i = binRead c i := by
  unfold binRead binWrite
  split
  · rw [tabGet_tabDrop_other _ _ h]
  · rw [tabGet_tabPut_other _ _ _ h]

/-- The canonical form, in words. -/
theorem binsWf_iff (c : Bins) :
    binsWf c = true ↔ tabSorted c = true ∧ ∀ e ∈ c, e.1 < 800 ∧ e.2 ≠ emptyBin := by
  simp only [binsWf, Bool.and_eq_true, List.all_eq_true, decide_eq_true_eq]
  exact Iff.rfl

/-- Writing a bin of the span keeps the canonical form. -/
theorem binsWf_binWrite {c : Bins} {b : Nat} (v : Bin) (h : binsWf c = true) (hb : b < 800) :
    binsWf (binWrite c b v) = true := by
  rw [binsWf_iff] at h ⊢
  unfold binWrite
  split
  · exact ⟨tabSorted_tabDrop b h.1, fun e he => h.2 e (List.mem_filter.1 he).1⟩
  · next hv =>
    refine ⟨tabSorted_tabPut b v h.1, fun e he => ?_⟩
    rcases mem_tabPut he with rfl | he
    · exact ⟨hb, hv⟩
    · exact h.2 e he

/-- R100: closing a gap in the span keeps the canonical form. -/
theorem binsWf_fillGap {c : Bins} (value first n : Nat) (h : binsWf c = true) (hn : first + n ≤ 800) :
    binsWf (fillGap value first n c) = true := by
  have step : ∀ (l : List Nat) (c : Bins), binsWf c = true → (∀ i ∈ l, i < n) →
      binsWf (l.foldl (fun c i => binWrite c (first + i)
        { value := value, empty := false, filled := true
          suspect := (binRead c (first + i)).suspect || decide (3 ≤ n) }) c) = true := by
    intro l
    induction l with
    | nil => intro c hc _; exact hc
    | cons i l ih =>
      intro c hc hl
      exact ih _ (binsWf_binWrite _ hc (by have := hl i List.mem_cons_self; omega))
        (fun j hj => hl j (List.mem_cons_of_mem _ hj))
  exact step (List.range n) c h (fun i hi => List.mem_range.1 hi)

/-- R101: the treated bins are as many as were given. -/
theorem treatBins_length (run last : Nat) (bs : List Bin) : (treatBins run last bs).length = bs.length := by
  induction bs generalizing run last with
  | nil => rfl
  | cons b bs ih => simp only [treatBins]; split <;> simp [ih]

/-- R101: no treated bin is empty. -/
theorem treatBins_nonempty (run last : Nat) (bs : List Bin) : ∀ b ∈ treatBins run last bs, b.empty = false := by
  induction bs generalizing run last with
  | nil => simp [treatBins]
  | cons a bs ih =>
    simp only [treatBins]
    split
    · intro b hb
      rcases List.mem_cons.1 hb with rfl | hb
      · rfl
      · exact ih _ _ b hb
    · next h =>
      intro b hb
      rcases List.mem_cons.1 hb with rfl | hb
      · simpa using h
      · exact ih _ _ b hb

/-- R101: the end treatment keeps the canonical form. -/
theorem binsWf_treatChannel {base : FingerSample} {d : Nat} {c : Bins} (h : binsWf c = true) (hd : d < 800) :
    binsWf (treatChannel base d c) = true := by
  rw [binsWf_iff, tabSorted_iff] at h ⊢
  obtain ⟨hs, hc⟩ := h
  set ts := markFirst (binRead c 0).empty base.suspect
    (treatBins 0 base.value ((List.range (d + 1)).map (binRead c))) with hts
  have hlen : ts.length = d + 1 := by
    have hb := treatBins_length 0 base.value ((List.range (d + 1)).map (binRead c))
    simp only [List.length_map, List.length_range] at hb
    rw [← hb, hts]
    cases treatBins 0 base.value ((List.range (d + 1)).map (binRead c)) <;> simp [markFirst]
  have hne : ∀ b ∈ ts, b.empty = false := by
    have hb := treatBins_nonempty 0 base.value ((List.range (d + 1)).map (binRead c))
    intro b
    rw [hts]
    cases hc : treatBins 0 base.value ((List.range (d + 1)).map (binRead c)) with
    | nil => simp [markFirst]
    | cons a l =>
      rw [hc] at hb
      intro hm
      rcases List.mem_cons.1 hm with rfl | hm
      · exact hb a List.mem_cons_self
      · exact hb b (List.mem_cons_of_mem _ hm)
  have hform : treatChannel base d c = (List.range (d + 1)).zip ts ++ c.filter (fun e => decide (d < e.1)) := rfl
  rw [hform]
  have hfst : ((List.range (d + 1)).zip ts).map Prod.fst = List.range (d + 1) :=
    List.map_fst_zip (by simp [hlen])
  constructor
  · refine List.pairwise_append.2 ⟨?_, hs.filter _, ?_⟩
    · have : (((List.range (d + 1)).zip ts).map Prod.fst).Pairwise (· < ·) := by
        rw [hfst]; exact List.pairwise_lt_range
      exact List.pairwise_map.1 this
    · intro a ha b hb
      have h1 : a.1 ∈ List.range (d + 1) := hfst ▸ List.mem_map_of_mem ha
      have h2 := of_decide_eq_true (List.mem_filter.1 hb).2
      have := List.mem_range.1 h1
      omega
  · intro e he
    rcases List.mem_append.1 he with he | he
    · have h1 : e.1 ∈ List.range (d + 1) := hfst ▸ List.mem_map_of_mem he
      have h2 : e.2 ∈ ts := (List.of_mem_zip he).2
      have := List.mem_range.1 h1
      refine ⟨by omega, fun hx => ?_⟩
      have := hne _ h2
      rw [hx] at this
      simp [emptyBin] at this
    · exact hc e (List.mem_filter.1 he).1

end Sys2Proof.Machine
end

