-- ==== Sys2Proof/Laws/State.lean ====
section
/-! SUPPORT. What each shared update of the state leaves alone, field by field, and the field it changes. -/

namespace Sys2Proof.Machine

/-! ## One link changed -/

@[simp] theorem onLink_pending (s : State) (l : Link) (f : LinkState → LinkState) :
    (s.onLink l f).pending = s.pending := by cases l <;> rfl
@[simp] theorem onLink_cat (s : State) (l : Link) (f : LinkState → LinkState) :
    (s.onLink l f).cat = s.cat := by cases l <;> rfl
@[simp] theorem onLink_head (s : State) (l : Link) (f : LinkState → LinkState) :
    (s.onLink l f).head = s.head := by cases l <;> rfl
@[simp] theorem onLink_job (s : State) (l : Link) (f : LinkState → LinkState) :
    (s.onLink l f).job = s.job := by cases l <;> rfl
@[simp] theorem onLink_motion (s : State) (l : Link) (f : LinkState → LinkState) :
    (s.onLink l f).motion = s.motion := by cases l <;> rfl
@[simp] theorem onLink_profile (s : State) (l : Link) (f : LinkState → LinkState) :
    (s.onLink l f).profile = s.profile := by cases l <;> rfl
@[simp] theorem onLink_monitor (s : State) (l : Link) (f : LinkState → LinkState) :
    (s.onLink l f).monitor = s.monitor := by cases l <;> rfl
@[simp] theorem onLink_store (s : State) (l : Link) (f : LinkState → LinkState) :
    (s.onLink l f).store = s.store := by cases l <;> rfl
@[simp] theorem onLink_qual (s : State) (l : Link) (f : LinkState → LinkState) :
    (s.onLink l f).qual = s.qual := by cases l <;> rfl
@[simp] theorem onLink_guards (s : State) (l : Link) (f : LinkState → LinkState) :
    (s.onLink l f).guards = s.guards := by cases l <;> rfl
@[simp] theorem onLink_link (s : State) (l : Link) (f : LinkState → LinkState) :
    (s.onLink l f).link l = f (s.link l) := by cases l <;> rfl
@[simp] theorem onLink_other (s : State) (l : Link) (f : LinkState → LinkState) :
    (s.onLink l f).link (otherLink l) = s.link (otherLink l) := by cases l <;> rfl

/-! ## The receiver set -/

@[simp] theorem setRx_pending (s : State) (l : Link) (rx : Receiver) :
    (s.setRx l rx).pending = s.pending := by cases l <;> rfl
@[simp] theorem setRx_cat (s : State) (l : Link) (rx : Receiver) : (s.setRx l rx).cat = s.cat := by cases l <;> rfl
@[simp] theorem setRx_head (s : State) (l : Link) (rx : Receiver) : (s.setRx l rx).head = s.head := by cases l <;> rfl
@[simp] theorem setRx_job (s : State) (l : Link) (rx : Receiver) : (s.setRx l rx).job = s.job := by cases l <;> rfl
@[simp] theorem setRx_motion (s : State) (l : Link) (rx : Receiver) :
    (s.setRx l rx).motion = s.motion := by cases l <;> rfl
@[simp] theorem setRx_profile (s : State) (l : Link) (rx : Receiver) :
    (s.setRx l rx).profile = s.profile := by cases l <;> rfl
@[simp] theorem setRx_monitor (s : State) (l : Link) (rx : Receiver) :
    (s.setRx l rx).monitor = s.monitor := by cases l <;> rfl
@[simp] theorem setRx_store (s : State) (l : Link) (rx : Receiver) :
    (s.setRx l rx).store = s.store := by cases l <;> rfl
@[simp] theorem setRx_qual (s : State) (l : Link) (rx : Receiver) : (s.setRx l rx).qual = s.qual := by cases l <;> rfl
@[simp] theorem setRx_guards (s : State) (l : Link) (rx : Receiver) :
    (s.setRx l rx).guards = s.guards := by cases l <;> rfl

/-! ## A reply made -/

@[simp] theorem reply_pending (s : State) (l : Link) (tag : Nat) (st : Status) (b : List Wire) :
    (s.reply l tag st b).pending = s.pending := by cases l <;> rfl
@[simp] theorem reply_cat (s : State) (l : Link) (tag : Nat) (st : Status) (b : List Wire) :
    (s.reply l tag st b).cat = s.cat := by cases l <;> rfl
@[simp] theorem reply_head (s : State) (l : Link) (tag : Nat) (st : Status) (b : List Wire) :
    (s.reply l tag st b).head = s.head := by cases l <;> rfl
@[simp] theorem reply_job (s : State) (l : Link) (tag : Nat) (st : Status) (b : List Wire) :
    (s.reply l tag st b).job = s.job := by cases l <;> rfl
@[simp] theorem reply_motion (s : State) (l : Link) (tag : Nat) (st : Status) (b : List Wire) :
    (s.reply l tag st b).motion = s.motion := by cases l <;> rfl
@[simp] theorem reply_profile (s : State) (l : Link) (tag : Nat) (st : Status) (b : List Wire) :
    (s.reply l tag st b).profile = s.profile := by cases l <;> rfl
@[simp] theorem reply_monitor (s : State) (l : Link) (tag : Nat) (st : Status) (b : List Wire) :
    (s.reply l tag st b).monitor = s.monitor := by cases l <;> rfl
@[simp] theorem reply_store (s : State) (l : Link) (tag : Nat) (st : Status) (b : List Wire) :
    (s.reply l tag st b).store = s.store := by cases l <;> rfl
@[simp] theorem reply_qual (s : State) (l : Link) (tag : Nat) (st : Status) (b : List Wire) :
    (s.reply l tag st b).qual = s.qual := by cases l <;> rfl
@[simp] theorem reply_guards (s : State) (l : Link) (tag : Nat) (st : Status) (b : List Wire) :
    (s.reply l tag st b).guards = s.guards := by cases l <;> rfl

/-! ## A refusal made -/

@[simp] theorem refuse_pending (s : State) (l : Link) (tag : Nat) (st : Status) :
    (s.refuse l tag st).pending = s.pending := by cases l <;> rfl
@[simp] theorem refuse_cat (s : State) (l : Link) (tag : Nat) (st : Status) :
    (s.refuse l tag st).cat = s.cat := by cases l <;> rfl
@[simp] theorem refuse_head (s : State) (l : Link) (tag : Nat) (st : Status) :
    (s.refuse l tag st).head = s.head := by cases l <;> rfl
@[simp] theorem refuse_job (s : State) (l : Link) (tag : Nat) (st : Status) :
    (s.refuse l tag st).job = s.job := by cases l <;> rfl
@[simp] theorem refuse_motion (s : State) (l : Link) (tag : Nat) (st : Status) :
    (s.refuse l tag st).motion = s.motion := by cases l <;> rfl
@[simp] theorem refuse_profile (s : State) (l : Link) (tag : Nat) (st : Status) :
    (s.refuse l tag st).profile = s.profile := by cases l <;> rfl
@[simp] theorem refuse_monitor (s : State) (l : Link) (tag : Nat) (st : Status) :
    (s.refuse l tag st).monitor = s.monitor := by cases l <;> rfl
@[simp] theorem refuse_store (s : State) (l : Link) (tag : Nat) (st : Status) :
    (s.refuse l tag st).store = s.store := by cases l <;> rfl
@[simp] theorem refuse_qual (s : State) (l : Link) (tag : Nat) (st : Status) :
    (s.refuse l tag st).qual = s.qual := by cases l <;> rfl
@[simp] theorem refuse_guards (s : State) (l : Link) (tag : Nat) (st : Status) :
    (s.refuse l tag st).guards = s.guards := by cases l <;> rfl

/-! ## A frame heard -/

@[simp] theorem heard_pending (h : Header) (s : State) :
    (heard h s).pending = s.pending := setRx_pending s h.link .hunting
@[simp] theorem heard_cat (h : Header) (s : State) : (heard h s).cat = s.cat := setRx_cat s h.link .hunting
@[simp] theorem heard_head (h : Header) (s : State) : (heard h s).head = s.head := setRx_head s h.link .hunting
@[simp] theorem heard_job (h : Header) (s : State) : (heard h s).job = s.job := setRx_job s h.link .hunting
@[simp] theorem heard_motion (h : Header) (s : State) :
    (heard h s).motion = s.motion := setRx_motion s h.link .hunting
@[simp] theorem heard_profile (h : Header) (s : State) :
    (heard h s).profile = s.profile := setRx_profile s h.link .hunting
@[simp] theorem heard_monitor (h : Header) (s : State) :
    (heard h s).monitor = s.monitor := setRx_monitor s h.link .hunting
@[simp] theorem heard_store (h : Header) (s : State) : (heard h s).store = s.store := setRx_store s h.link .hunting
@[simp] theorem heard_qual (h : Header) (s : State) : (heard h s).qual = s.qual := setRx_qual s h.link .hunting
@[simp] theorem heard_guards (h : Header) (s : State) :
    (heard h s).guards = s.guards := setRx_guards s h.link .hunting
@[simp] theorem heard_replies (h : Header) (s : State) :
    ((heard h s).link h.link).replies = (s.link h.link).replies := by
  simp [heard, State.setRx]

/-! ## A notice raised, the arbiters -/

@[simp] theorem raise_pending (s : State) (n : Notice) : (s.raise n).pending = s.pending := rfl
@[simp] theorem raise_cat (s : State) (n : Notice) : (s.raise n).cat = s.cat := rfl
@[simp] theorem raise_head (s : State) (n : Notice) : (s.raise n).head = s.head := rfl
@[simp] theorem raise_job (s : State) (n : Notice) : (s.raise n).job = s.job := rfl
@[simp] theorem raise_motion (s : State) (n : Notice) : (s.raise n).motion = s.motion := rfl
@[simp] theorem raise_profile (s : State) (n : Notice) : (s.raise n).profile = s.profile := rfl
@[simp] theorem raise_monitor (s : State) (n : Notice) : (s.raise n).monitor = s.monitor := rfl
@[simp] theorem raise_store (s : State) (n : Notice) : (s.raise n).store = s.store := rfl
@[simp] theorem raise_qual (s : State) (n : Notice) : (s.raise n).qual = s.qual := rfl
@[simp] theorem raise_guards (s : State) (n : Notice) : (s.raise n).guards = s.guards := rfl
@[simp] theorem raise_cell (s : State) (n : Notice) : (s.raise n).cell = raiseOn n s.cell := rfl
@[simp] theorem raise_line (s : State) (n : Notice) : (s.raise n).line = raiseOn n s.line := rfl
@[simp] theorem arbiters_pending (s : State) : s.arbiters.pending = s.pending := rfl
@[simp] theorem arbiters_cat (s : State) : s.arbiters.cat = s.cat := rfl
@[simp] theorem arbiters_head (s : State) : s.arbiters.head = s.head := rfl
@[simp] theorem arbiters_job (s : State) : s.arbiters.job = s.job := rfl
@[simp] theorem arbiters_motion (s : State) : s.arbiters.motion = s.motion := rfl
@[simp] theorem arbiters_profile (s : State) : s.arbiters.profile = s.profile := rfl
@[simp] theorem arbiters_monitor (s : State) : s.arbiters.monitor = s.monitor := rfl
@[simp] theorem arbiters_store (s : State) : s.arbiters.store = s.store := rfl
@[simp] theorem arbiters_qual (s : State) : s.arbiters.qual = s.qual := rfl
@[simp] theorem arbiters_guards (s : State) : s.arbiters.guards = s.guards := rfl
@[simp] theorem arbiters_cell (s : State) : s.arbiters.cell = arbitrate s.cell := rfl
@[simp] theorem arbiters_line (s : State) : s.arbiters.line = arbitrate s.line := rfl

/-! ## The running job, the step in hand, the open record, the motion block -/

@[simp] theorem onRun_pending (s : State) (f : Run → Run) : (s.onRun f).pending = s.pending := rfl
@[simp] theorem onRun_cell (s : State) (f : Run → Run) : (s.onRun f).cell = s.cell := rfl
@[simp] theorem onRun_line (s : State) (f : Run → Run) : (s.onRun f).line = s.line := rfl
@[simp] theorem onRun_cat (s : State) (f : Run → Run) : (s.onRun f).cat = s.cat := rfl
@[simp] theorem onRun_head (s : State) (f : Run → Run) : (s.onRun f).head = s.head := rfl
@[simp] theorem onRun_motion (s : State) (f : Run → Run) : (s.onRun f).motion = s.motion := rfl
@[simp] theorem onRun_profile (s : State) (f : Run → Run) : (s.onRun f).profile = s.profile := rfl
@[simp] theorem onRun_monitor (s : State) (f : Run → Run) : (s.onRun f).monitor = s.monitor := rfl
@[simp] theorem onRun_store (s : State) (f : Run → Run) : (s.onRun f).store = s.store := rfl
@[simp] theorem onRun_qual (s : State) (f : Run → Run) : (s.onRun f).qual = s.qual := rfl
@[simp] theorem onRun_guards (s : State) (f : Run → Run) : (s.onRun f).guards = s.guards := rfl
@[simp] theorem onRun_run (s : State) (f : Run → Run) :
    (s.onRun f).run = s.run.map f := by
  cases h : s.job with
  | none => simp [State.run, State.onRun, h]
  | some j => simp [State.run, State.onRun, h]
@[simp] theorem onHand_pending (s : State) (f : InHand → InHand) : (s.onHand f).pending = s.pending := rfl
@[simp] theorem onHand_cell (s : State) (f : InHand → InHand) : (s.onHand f).cell = s.cell := rfl
@[simp] theorem onHand_line (s : State) (f : InHand → InHand) : (s.onHand f).line = s.line := rfl
@[simp] theorem onHand_cat (s : State) (f : InHand → InHand) : (s.onHand f).cat = s.cat := rfl
@[simp] theorem onHand_head (s : State) (f : InHand → InHand) : (s.onHand f).head = s.head := rfl
@[simp] theorem onHand_motion (s : State) (f : InHand → InHand) : (s.onHand f).motion = s.motion := rfl
@[simp] theorem onHand_profile (s : State) (f : InHand → InHand) : (s.onHand f).profile = s.profile := rfl
@[simp] theorem onHand_monitor (s : State) (f : InHand → InHand) : (s.onHand f).monitor = s.monitor := rfl
@[simp] theorem onHand_store (s : State) (f : InHand → InHand) : (s.onHand f).store = s.store := rfl
@[simp] theorem onHand_qual (s : State) (f : InHand → InHand) : (s.onHand f).qual = s.qual := rfl
@[simp] theorem onHand_guards (s : State) (f : InHand → InHand) : (s.onHand f).guards = s.guards := rfl
@[simp] theorem onRecord_pending (s : State) (f : Record → Record) : (s.onRecord f).pending = s.pending := rfl
@[simp] theorem onRecord_cell (s : State) (f : Record → Record) : (s.onRecord f).cell = s.cell := rfl
@[simp] theorem onRecord_line (s : State) (f : Record → Record) : (s.onRecord f).line = s.line := rfl
@[simp] theorem onRecord_cat (s : State) (f : Record → Record) : (s.onRecord f).cat = s.cat := rfl
@[simp] theorem onRecord_head (s : State) (f : Record → Record) : (s.onRecord f).head = s.head := rfl
@[simp] theorem onRecord_job (s : State) (f : Record → Record) : (s.onRecord f).job = s.job := rfl
@[simp] theorem onRecord_motion (s : State) (f : Record → Record) : (s.onRecord f).motion = s.motion := rfl
@[simp] theorem onRecord_profile (s : State) (f : Record → Record) : (s.onRecord f).profile = s.profile := rfl
@[simp] theorem onRecord_monitor (s : State) (f : Record → Record) : (s.onRecord f).monitor = s.monitor := rfl
@[simp] theorem onRecord_qual (s : State) (f : Record → Record) : (s.onRecord f).qual = s.qual := rfl
@[simp] theorem onRecord_guards (s : State) (f : Record → Record) : (s.onRecord f).guards = s.guards := rfl
@[simp] theorem onRecord_store (s : State) (f : Record → Record) :
    (s.onRecord f).store = { s.store with records := onOpenRecord f s.store.records } := rfl
@[simp] theorem onMotion_pending (s : State) (f : Motion → Motion) : (s.onMotion f).pending = s.pending := rfl
@[simp] theorem onMotion_cell (s : State) (f : Motion → Motion) : (s.onMotion f).cell = s.cell := rfl
@[simp] theorem onMotion_line (s : State) (f : Motion → Motion) : (s.onMotion f).line = s.line := rfl
@[simp] theorem onMotion_cat (s : State) (f : Motion → Motion) : (s.onMotion f).cat = s.cat := rfl
@[simp] theorem onMotion_head (s : State) (f : Motion → Motion) : (s.onMotion f).head = s.head := rfl
@[simp] theorem onMotion_job (s : State) (f : Motion → Motion) : (s.onMotion f).job = s.job := rfl
@[simp] theorem onMotion_profile (s : State) (f : Motion → Motion) : (s.onMotion f).profile = s.profile := rfl
@[simp] theorem onMotion_monitor (s : State) (f : Motion → Motion) : (s.onMotion f).monitor = s.monitor := rfl
@[simp] theorem onMotion_store (s : State) (f : Motion → Motion) : (s.onMotion f).store = s.store := rfl
@[simp] theorem onMotion_qual (s : State) (f : Motion → Motion) : (s.onMotion f).qual = s.qual := rfl
@[simp] theorem onMotion_guards (s : State) (f : Motion → Motion) : (s.onMotion f).guards = s.guards := rfl
@[simp] theorem onMotion_motion (s : State) (f : Motion → Motion) : (s.onMotion f).motion = f s.motion := rfl
@[simp] theorem latch_pending (s : State) (enc : Int) : (s.latch enc).pending = s.pending := rfl
@[simp] theorem latch_cell (s : State) (enc : Int) : (s.latch enc).cell = s.cell := rfl
@[simp] theorem latch_line (s : State) (enc : Int) : (s.latch enc).line = s.line := rfl
@[simp] theorem latch_cat (s : State) (enc : Int) : (s.latch enc).cat = s.cat := rfl
@[simp] theorem latch_head (s : State) (enc : Int) : (s.latch enc).head = s.head := rfl
@[simp] theorem latch_profile (s : State) (enc : Int) : (s.latch enc).profile = s.profile := rfl
@[simp] theorem latch_monitor (s : State) (enc : Int) : (s.latch enc).monitor = s.monitor := rfl
@[simp] theorem latch_store (s : State) (enc : Int) : (s.latch enc).store = s.store := rfl
@[simp] theorem latch_qual (s : State) (enc : Int) : (s.latch enc).qual = s.qual := rfl
@[simp] theorem latch_guards (s : State) (enc : Int) : (s.latch enc).guards = s.guards := rfl
@[simp] theorem latch_motion (s : State) (enc : Int) : (s.latch enc).motion = { s.motion with enc := enc } := rfl

end Sys2Proof.Machine
end

