-- ==== Sys2Proof/Laws/Program.lean ====
section
/-! SUPPORT. What the end of a step does, once and for all: an abort cause ends the program and begins a stop; a normal end lets
the program go on; an abort cause that reaches a PAUSED program ends it at rest or begins a stop. -/

namespace Sys2Proof.Machine

/-- The parts of a running job. -/
theorem run_of_job {s : State} {j : Job} {r : Run} (hj : s.job = some j) (hr : j.run = some r) : s.run = some r := by
  simp [State.run, hj, hr]

/-- The step in hand of a running job. -/
theorem inHand_of_job {s : State} {j : Job} {r : Run} {h : InHand} (hj : s.job = some j) (hr : j.run = some r)
    (hh : r.inHand = some h) : s.inHand = some h := by
  simp [State.inHand, run_of_job hj hr, hh]

/-- R85: the outcome of the step in hand as the open record takes it. -/
theorem closeRecords_eq (h : InHand) (c : EndCause) (stop : Int) (rs : List Record) :
    onOpenRecord (fun rec => { rec with outcomes := rec.outcomes ++ [outcomeOf h c stop] }) rs
      = recordsAfter h c stop none rs := rfl

/-- R64, R85: the records when the program ends with a cause after the step's end. -/
theorem endRecords_eq (h : InHand) (c d : EndCause) (stop : Int) (rs : List Record) :
    onOpenRecord (fun r => { r with cause := some d }) (recordsAfter h c stop none rs)
      = recordsAfter h c stop (some d) rs := by
  simp only [onOpenRecord, recordsAfter, List.map_map]
  apply List.map_congr_left
  intro r _
  by_cases ha : r.state = .opened <;> simp [ha]

/-- R57, R85: what closing a step does, in one state. -/
theorem closeStep_eq {s : State} {j : Job} {r : Run} {h : InHand} (c : EndCause) (stop : Int) (hj : s.job = some j)
    (hr : j.run = some r) :
    closeStep r h c stop s = { s with
      store := { s.store with records := recordsAfter h c stop none s.store.records }
      job := some { j with run := some { r with inHand := none } }
      cell := raiseOn (stepNotice r h c stop) s.cell
      line := raiseOn (stepNotice r h c stop) s.line
      profile := profileAfter h false s.profile
      monitor := { s.monitor with phase := phaseAfter h false s.monitor.phase } } := by
  obtain ⟨pending, cell, line, cat, head, job, motion, profile, monitor, store, qual, guards⟩ := s
  simp only at hj
  subst hj
  by_cases hk : bodyKind h.record.body = .press
  · simp [closeStep, State.onRecord, State.onRun, State.raise, closeRecords_eq, pressEnded, hk, profileAfter, phaseAfter,
      stepNotice, hr]
  · simp [closeStep, State.onRecord, State.onRun, State.raise, closeRecords_eq, hk, profileAfter, phaseAfter,
      stepNotice, hr]

/-! ## The ramp output (R68, R82) -/

/-- R68: a ramp output of zero has nothing to fall from. -/
theorem slowRamp_of_zero (rate : Nat) {r : Ramp} (h : r.output = 0) : slowRamp rate r = .zero := by
  cases r <;> simp_all [slowRamp, fallingFrom, Ramp.output]

/-- R68: a stop changes the rate of the ramp output, and its speed not at once. -/
@[simp] theorem slowRamp_output (rate : Nat) (r : Ramp) : (slowRamp rate r).output = r.output := by
  cases r <;> simp only [slowRamp, fallingFrom] <;> split <;> simp_all [Ramp.output]

/-- R82: the rate in force is the greater of a falling ramp's and the stop's own. -/
@[simp] theorem rateOr_slowRamp (rate : Nat) (r : Ramp) : (slowRamp rate r).rateOr rate = rateInForce rate r := by
  cases r <;> simp only [slowRamp, fallingFrom, rateInForce] <;> split <;> simp_all [Ramp.rateOr]

/-- R57, R61, R64, R82, R85: an abort cause other than a drive fault ends the step in hand and the program, and begins a
stop. -/
theorem endStep_aborts {s : State} {j : Job} {r : Run} {h : InHand} (c : EndCause) (stop : Int) (drop : Bool)
    (hj : s.job = some j) (hr : j.run = some r) (hh : r.inHand = some h) (hc : c ≠ normalEnd (bodyKind h.record.body))
    (hd : c ≠ .driveFault) : Aborted drop r h c stop s (endStep c stop drop s) := by
  simp only [endStep, run_of_job hj hr, inHand_of_job hj hr hh, hc, hd, if_false, closeStep_eq c stop hj hr]
  refine ⟨endRecords_eq .., rfl, rfl, ?_, ?_, ?_, ?_, ⟨rfl, rfl, rfl, rfl, rfl, rfl⟩⟩
  · simp [endProgram, beginStop, hj]
  · simp [endProgram, beginStop]
  · by_cases hk : bodyKind h.record.body = .press <;> simp [endProgram, beginStop, profileAfter, hk]
  · by_cases hk : bodyKind h.record.body = .press
    · simp [endProgram, beginStop, phaseAfter, hk, Monitor.programEnds]
    · by_cases hw : s.monitor.phase = .watching <;> simp [endProgram, beginStop, phaseAfter, hk, hw, Monitor.programEnds]

/-- R69: the test of rest, in words. -/
theorem atRest_iff (s : State) : s.atRest = true ↔ rests s := by
  simp only [State.atRest, rests, Motion.still, Bool.and_eq_true, Bool.or_eq_true, decide_eq_true_eq, Bool.not_eq_true',
    List.all_eq_true]
  exact Iff.rfl

/-- R67, R68: in PAUSED with the guards closed, a ram at rest has a ramp output of zero. -/
theorem ramp_zero_of_rests {s : State} (hr : rests s) (hp : s.motion.stroke = .paused) (ho : s.guards.openSet = []) :
    s.motion.ramp.output = 0 := by
  rcases hr.1 with h | h
  · exact h
  · simp [State.enable, Motion.enableByState, hp, Guards.estopHold, ho] at h

/-- R59, R61, R82, R83: an abort cause other than a drive fault that reaches a PAUSED program. -/
theorem endPaused_ends {s : State} {j : Job} {r : Run} (c : EndCause) (drop : Bool) (hj : s.job = some j)
    (hr : j.run = some r) (hp : s.motion.stroke = .paused) (hd : c ≠ .driveFault) :
    PauseEnded drop j r c s (endPaused c drop s) := by
  have hrest := atRest_iff s
  have hpos : s.motion.position = s.motion.enc - s.motion.zero := rfl
  by_cases h : s.atRest = true
  · by_cases hf : followOf c = .retract
    · by_cases hg : s.guards.openSet = [] ∧ ¬ s.motion.enc - s.motion.zero = 0
      · have hz := ramp_zero_of_rests (hrest.1 h) hp hg.1
        constructor <;> (try constructor) <;>
          simp [endPaused, hd, h, hrest.1 h, beginStop, takeFollowOn, hf, endProgram, Monitor.programEnds, hj, hr, hg,
            State.openSet, Motion.position, slowRamp_of_zero _ hz, onOpenRecord, Config.retractSpeed]
        split <;> rfl
      · constructor <;> (try constructor) <;>
          simp [endPaused, hd, h, hrest.1 h, beginStop, takeFollowOn, hf, endProgram, Monitor.programEnds, hj, hr, hg,
            State.openSet, Motion.position, onOpenRecord, Config.slowRate, markRest, State.onRun]
        · split <;> rfl
        · exact fun ho => Decidable.not_not.1 (fun hne => hg ⟨ho, hne⟩)
    · have hi : followOf c = .idle := by revert hf; cases c <;> simp [followOf]
      constructor <;> (try constructor) <;>
        simp [endPaused, hd, h, hrest.1 h, beginStop, takeFollowOn, hi, endProgram, Monitor.programEnds, hj, hr,
          State.openSet, Motion.position, onOpenRecord, Config.slowRate, markRest, State.onRun]
      split <;> rfl
  · constructor <;> (try constructor) <;>
      simp [endPaused, hd, h, mt hrest.2 h, beginStop, endProgram, Monitor.programEnds, hj, hr, State.openSet,
        Motion.position, onOpenRecord, Config.slowRate]
    split <;> rfl

/-- R57 to R59, R85: a normal end of the step in hand lets the program go on. -/
theorem endStep_goes_on {s : State} {j : Job} {r : Run} {h : InHand} (stop : Int) (drop : Bool) (hj : s.job = some j)
    (hr : j.run = some r) (hh : r.inHand = some h) :
    GoesOn j r h (normalEnd (bodyKind h.record.body)) stop s (endStep (normalEnd (bodyKind h.record.body)) stop drop s) := by
  simp only [endStep, run_of_job hj hr, inHand_of_job hj hr hh, if_true, closeStep_eq _ stop hj hr, continueProgram]
  cases hl : h.record.last
  · simp only [Bool.false_eq_true, if_false]
    cases hq : j.queue with
    | nil =>
      refine ⟨?_, ?_, ?_, ?_, ?_, ⟨?_, ?_, ?_, ?_, ?_, ?_⟩⟩ <;>
        simp [State.onRun, State.raise, hl, hq, Config.maxSteps]
    | cons rec rest =>
      refine ⟨?_, ?_, ?_, ?_, ?_, ⟨?_, ?_, ?_, ?_, ?_, ?_⟩⟩ <;>
        simp [hl, hq, handOver, Motion.position]
  · simp only [if_true]
    refine ⟨?_, ?_, ?_, ?_, ?_, ⟨?_, ?_, ?_, ?_, ?_, ?_⟩⟩
    · simp [endProgram, markRest, State.onRun, hl, endRecords_eq]
    · intro _
      refine ⟨by simp [endProgram, markRest, State.onRun], by simp [endProgram, markRest, State.onRun], ?_,
        by simp [endProgram, markRest, State.onRun], by simp [endProgram, markRest, State.onRun]⟩
      by_cases hk : bodyKind h.record.body = .press <;> by_cases hw : s.monitor.phase = .watching <;>
        simp [endProgram, markRest, State.onRun, phaseAfter, hk, hw, Monitor.programEnds]
    · simp [hl]
    · simp [hl]
    · by_cases hk : bodyKind h.record.body = .press <;> simp [endProgram, markRest, State.onRun, profileAfter, hk, hl]
    all_goals simp [endProgram, markRest, State.onRun]

end Sys2Proof.Machine
end

