-- ==== Sys2Proof/Laws/Events.lean ====
section
/-! SUPPORT. What an event does before its own effect, in the words of Safety.lean: the count it latches, a departure of the head
from READY, a ram sample as it is taken, and an input's entry into the open-guard set. -/

namespace Sys2Proof.Machine

/-! ## The latched count -/

/-- R85: latching a count, in one state. -/
theorem latch_eq (enc : Int) (s : State) : s.latch enc = latched enc s := rfl

/-- A latched count leaves every block but the motion block and the job. -/
@[simp] theorem latched_head (enc : Int) (s : State) : (latched enc s).head = s.head := rfl
@[simp] theorem latched_monitor (enc : Int) (s : State) : (latched enc s).monitor = s.monitor := rfl
@[simp] theorem latched_profile (enc : Int) (s : State) : (latched enc s).profile = s.profile := rfl
@[simp] theorem latched_store (enc : Int) (s : State) : (latched enc s).store = s.store := rfl
@[simp] theorem latched_guards (enc : Int) (s : State) : (latched enc s).guards = s.guards := rfl

/-- R67: the position after a count is latched. -/
@[simp] theorem latched_position (enc : Int) (s : State) : (latched enc s).motion.position = enc - s.motion.zero := rfl

/-- R85: the job after a count is latched, with its step in hand. -/
theorem latched_job {s : State} {j : Job} {r : Run} {h : InHand} (enc : Int) (hj : s.job = some j) (hr : j.run = some r)
    (hh : r.inHand = some h) :
    (latched enc s).job = some { j with run := some { r with
      inHand := some { h with travelled := h.travelled + (enc - s.motion.enc).natAbs } } } := by
  simp [latched, hj, hr, hh]

/-- A count latched without a step in hand leaves the job as it is. -/
theorem latched_job_idle {s : State} {j : Job} {r : Run} (enc : Int) (hj : s.job = some j) (hr : j.run = some r)
    (hh : r.inHand = none) : (latched enc s).job = some j := by
  obtain ⟨_, _, _, _, _, _, _, _, run⟩ := j
  obtain ⟨_, _, _, inHand, _, _, _, _⟩ := r
  simp only at hr hh
  subst hr hh
  simp [latched, hj]

/-! ## The head leaves READY (R22, R26, R42, R88, R111) -/

/-- R42: what the end of a tare without completing does. -/
theorem abortTare_eq (s : State) : abortTare s = tareEnded s := by
  unfold abortTare tareEnded
  cases s.head.tare <;> rfl

/-- The end of a tare leaves everything but the tare and the cell link's replies. -/
@[simp] theorem tareEnded_status (s : State) : (tareEnded s).head.status = s.head.status := by
  unfold tareEnded; cases s.head.tare <;> rfl
@[simp] theorem tareEnded_job (s : State) : (tareEnded s).job = s.job := by
  unfold tareEnded; cases s.head.tare <;> rfl
@[simp] theorem tareEnded_motion (s : State) : (tareEnded s).motion = s.motion := by
  unfold tareEnded; cases s.head.tare <;> rfl
@[simp] theorem tareEnded_monitor (s : State) : (tareEnded s).monitor = s.monitor := by
  unfold tareEnded; cases s.head.tare <;> rfl

/-- R25, R26: the first attempt of a width. -/
theorem firstAttempt_eq (w : Option Width) : firstAttempt w = attemptOf w := by
  rcases w with _ | w
  · rfl
  · cases w <;> rfl

/-- R35, R37: when frames are delivered. -/
theorem framing_iff (h : Head) : h.framing = true ↔ h.status = .ready ∧ ∀ n ∈ h.bad, n < 8 := by
  simp only [Head.framing, Bool.and_eq_true, decide_eq_true_eq, List.all_eq_true]
  exact Iff.rfl

/-- R22, R26, R111: a training run begins. -/
theorem beginTraining_eq (a : Nat) (s : State) :
    beginTraining a s = if s.head.status = .ready then sensingLost (fingersStop (trainingFrom a (tareEnded s)))
      else trainingFrom a (tareEnded s) := by
  simp only [beginTraining, abortTare_eq, leaveReady]
  rfl

/-- R24, R111: a detach. -/
theorem detach_eq (s : State) :
    detach s = if s.head.status = .ready then sensingLost (fingersStop (headGone (tareEnded s)))
      else headGone (tareEnded s) := by
  simp only [detach, abortTare_eq, leaveReady]
  rw [← tareEnded_status s]
  rfl

/-- R111: a loss of sensing once the PRESS step has ended, or with no job running, has no effect. -/
theorem sensingLost_quiet {s : State} (hw : s.monitor.phase ≠ .watching) (hp : s.monitor.phase ≠ .pressing) :
    sensingLost s = s := by
  unfold sensingLost
  split <;> simp_all

/-- R111: a loss of sensing before the PRESS step has ended ends the step in hand. -/
theorem sensingLost_aborts {s : State} {j : Job} {r : Run} {h : InHand}
    (hp : s.monitor.phase = .watching ∨ s.monitor.phase = .pressing) (hj : s.job = some j) (hr : j.run = some r)
    (hh : r.inHand = some h) : Aborted false r h .sensingLost s.motion.position s (sensingLost s) := by
  have e : sensingLost s = endStep .sensingLost s.motion.position false s := by
    rcases hp with hp | hp <;> simp [sensingLost, interrupt, hp, inHand_of_job hj hr hh]
  rw [e]
  exact endStep_aborts _ _ _ hj hr hh (by cases bodyKind h.record.body <;> simp [normalEnd]) (by simp)

/-- R59, R111: a loss of sensing before the PRESS step has ended ends a PAUSED program. -/
theorem sensingLost_paused {s : State} {j : Job} {r : Run}
    (hp : s.monitor.phase = .watching ∨ s.monitor.phase = .pressing) (hj : s.job = some j) (hr : j.run = some r)
    (hh : r.inHand = none) (hs : s.motion.stroke = .paused) : PauseEnded false j r .sensingLost s (sensingLost s) := by
  have hi : s.inHand = none := by simp [State.inHand, run_of_job hj hr, hh]
  have e : sensingLost s = endPaused .sensingLost false s := by
    rcases hp with hp | hp <;> simp [sensingLost, interrupt, hp, hi, hs]
  rw [e]
  exact endPaused_ends _ _ hj hr hs (by simp)

/-! ## The ram sample (R87) -/

/-- R87: the value of a raw ram reading. -/
theorem ramValue_eq (offset raw : Int) : ramValue offset raw = ramForce offset raw := by
  simp only [ramValue, ramForce, Config.maxRam]
  split
  · omega
  · split <;> omega

/-- R74, R75: a latched count leaves the position that the ram is to come to rest at. -/
@[simp] theorem latch_aim (enc : Int) (s : State) : (s.latch enc).aim = s.aim := by
  obtain ⟨_, _, _, _, _, job, _, _, _, _, _, _⟩ := s
  rcases job with _ | ⟨_, _, _, _, _, _, _, _, run⟩
  · rfl
  · rcases run with _ | ⟨_, _, _, inHand, _, _, _, _⟩
    · rfl
    · cases inHand <;> rfl

/-- R68, R74: a ramp output moves toward the commanded speed, or toward zero on an approach. -/
theorem rampGoal_or (s : State) : s.rampGoal = s.motion.commanded ∨ s.rampGoal = 0 := by
  unfold State.rampGoal
  split
  · split <;> simp
  · simp

/-- R68: a speed between zero and the commanded one stays so as it moves toward either. -/
theorem speedToward_between {c goal v : Int} (rate : Nat) (hg : goal = c ∨ goal = 0)
    (hv : 0 ≤ v ∧ v ≤ c ∨ c ≤ v ∧ v ≤ 0) :
    0 ≤ speedToward goal rate v ∧ speedToward goal rate v ≤ c ∨ c ≤ speedToward goal rate v ∧ speedToward goal rate v ≤ 0 := by
  simp only [speedToward]
  generalize rate / Config.rateUnit = change
  split <;> omega

/-- R68: a ramp that falls from a speed falls at its rate from a speed that is not zero, or is zero. -/
theorem fallingFrom_eq {rate r : Nat} {v w : Int} (h : fallingFrom rate v = .falling r w) : r = rate ∧ w = v ∧ v ≠ 0 := by
  unfold fallingFrom at h
  split at h
  · cases h
  · cases h; exact ⟨rfl, rfl, ‹_›⟩

/-- R68, R73 to R75: the ramp output after a ram sample. -/
theorem next_rampGoal (enc : Int) (s : State) :
    ((tick s).latch enc).motion.ramp.next ((tick s).latch enc).rampGoal = rampSampled enc s := by
  have ha : ((tick s).latch enc).aim = s.aim := latch_aim enc (tick s)
  have hm : ((tick s).latch enc).motion = { s.motion with enc := enc } := rfl
  simp only [State.rampGoal, ha, hm, rampSampled, Motion.position]
  cases s.motion.ramp <;>
    simp only [Ramp.next, Ramp.output, mustFall, speedToward, fallingFrom, Config.stopDivisor, Config.slowRate, Config.rateUnit]
  · cases s.aim <;> rfl
  · rfl

/-- R68, R71, R85, R87, R158, R166: a ram sample, before touch, binning and the ram tests. -/
theorem takeRamSample_eq (raw enc : Int) (s : State) :
    takeRamSample raw enc s = if s.run = none then ramSampled raw enc s
      else useRamSample (enc - s.motion.zero) (ramForce s.motion.ramOffset raw)
        (decide (60000 ≤ raw - s.motion.ramOffset)) (ramSampled raw enc s) := by
  simp only [takeRamSample, ramSampled, next_rampGoal]
  generalize rampSampled enc s = ramp
  obtain ⟨_, _, _, _, _, job, motion, _, _, _, _, _⟩ := s
  obtain ⟨_, _, _, _, _, _, _, _, phase, _, _, _, _⟩ := motion
  rcases job with _ | ⟨_, _, _, _, _, _, _, _, run⟩
  · cases phase <;> simp [tick, State.latch, State.onHand, State.onRun, State.jobRunning, State.run,
      Motion.remember, tareRam, ← ramValue_eq, Config.restSamples, Config.tareSamples]
    all_goals rfl
  · rcases run with _ | run
    · cases phase <;> simp [tick, State.latch, State.onHand, State.onRun, State.jobRunning, State.run,
        Motion.remember, tareRam, ← ramValue_eq, Config.restSamples, Config.tareSamples]
      all_goals rfl
    · cases phase <;> simp [tick, State.latch, State.onHand, State.onRun, State.jobRunning, State.run,
        Motion.remember, tareRam, ← ramValue_eq, Config.restSamples, Config.tareSamples, raisePeaks, ramSaturated,
        Motion.position]
      all_goals rfl

/-! ## Guards (R163, R165, R167) -/

/-- R165: the members of the open-guard set. -/
theorem mem_openSet (g : Guards) (x : Nat) :
    x ∈ g.openSet ↔ 1 ≤ x ∧ x ≤ 8 ∧ g.kind x ≠ .absent ∧ g.state x ≠ .closed := by
  simp only [Guards.openSet, guardInputs, kindCounts, List.mem_filter, Bool.and_eq_true, decide_eq_true_eq, List.mem_cons,
    List.not_mem_nil, or_false]
  constructor
  · rintro ⟨h, hk, hs⟩
    exact ⟨by omega, by omega, hk, hs⟩
  · rintro ⟨h1, h8, hk, hs⟩
    exact ⟨by omega, hk, hs⟩

/-- R163: an input's state after a change, and the other inputs' states. -/
theorem state_setState {g : Guards} {i : Nat} (d : Debounced) (x : Nat) (hi : 1 ≤ i) (h8 : i ≤ 8) (hl : g.states.length = 8)
    (hx : 1 ≤ x) : (g.setState i d).state x = if x = i then d else g.state x := by
  simp only [Guards.state, Guards.setState, List.getD_eq_getElem?_getD, List.getElem?_set]
  by_cases h : x = i
  · subst h
    simp [hl, show x - 1 < 8 by omega]
  · have : ¬ i - 1 = x - 1 := by omega
    simp [h, this]

/-- R163: a change of an input's state leaves the kinds. -/
@[simp] theorem kind_setState (g : Guards) (i : Nat) (d : Debounced) (x : Nat) : (g.setState i d).kind x = g.kind x := rfl

/-- R165: the members of the open-guard set after an input is open. -/
theorem mem_openSet_opened {g : Guards} {i : Nat} (hi : 1 ≤ i) (h8 : i ≤ 8) (hl : g.states.length = 8) (x : Nat) :
    x ∈ (g.setState i .opened).openSet ↔ x ∈ g.openSet ∨ x = i ∧ g.kind i ≠ .absent := by
  simp only [mem_openSet, kind_setState]
  by_cases hx : 1 ≤ x
  · rw [state_setState .opened x hi h8 hl hx]
    by_cases h : x = i
    · subst h
      simp [hi, h8]
      tauto
    · simp [h]
  · have : x ≠ i := by omega
    simp [hx, this]

/-- R165: the open-guard set after an input is shut. -/
theorem mem_openSet_closed {g : Guards} {i : Nat} (hi : 1 ≤ i) (h8 : i ≤ 8) (hl : g.states.length = 8) (x : Nat) :
    x ∈ (g.setState i .closed).openSet ↔ x ∈ g.openSet ∧ x ≠ i := by
  simp only [mem_openSet, kind_setState]
  by_cases hx : 1 ≤ x
  · rw [state_setState .closed x hi h8 hl hx]
    by_cases h : x = i
    · simp [h]
    · simp [h]
  · simp [hx]

/-- R165: the open-guard set stands in ascending order. -/
theorem openSet_sorted (g : Guards) : g.openSet.Pairwise (· < ·) := List.Pairwise.filter _ (by decide)

/-- R165: the set that a first entry leaves. -/
theorem openSet_entered {g : Guards} {i : Nat} (hi : 1 ≤ i) (h8 : i ≤ 8) (hl : g.states.length = 8) (he : g.openSet = [])
    (hk : g.kind i ≠ .absent) : (g.setState i .opened).openSet = [i] := by
  have hs := openSet_sorted (g.setState i .opened)
  have hm : ∀ x, x ∈ (g.setState i .opened).openSet ↔ x = i := by
    intro x
    rw [mem_openSet_opened hi h8 hl]
    simp [he, hk]
  exact (List.perm_of_nodup_nodup_toFinset_eq (hs.imp Nat.ne_of_lt) (by simp) (by ext; simp [hm])).eq_singleton

/-- R165 to R167: an input of a counting kind enters the set. -/
theorem takeGuardChange_enters {s : State} {i : Nat} (hi : 1 ≤ i) (h8 : i ≤ 8) (hl : s.guards.states.length = 8)
    (he : s.openSet = []) (hk : s.guards.kind i ≠ .absent) :
    takeGuardChange i .opened s = guardOpened i (guardEntry (s.guards.kind i) { s with guards := s.guards.setState i .opened }) := by
  have hset : State.openSet { s with guards := s.guards.setState i .opened } = [i] := openSet_entered hi h8 hl he hk
  simp [takeGuardChange, he, hset]

end Sys2Proof.Machine
end

