-- ==== Sys2Proof/Laws/Requests.lean ====
section
/-! SUPPORT. What a request command does: one that passes the link unit's checks is served on the link as it hunts again, one
that does not is discarded or refused with nothing else changed. -/

namespace Sys2Proof.Machine

/-- R174: an admitted request is served by its block. -/
theorem request_of_admitted {h : Header} {r : Request} {s : State} (closed : Bool) (ha : admitted h r s = true) :
    request h r s closed = serve closed r h.link h.tag (heard h s) := by
  simp only [admitted, Bool.and_eq_true, decide_eq_true_eq] at ha
  obtain ⟨⟨hr, hp⟩, hs⟩ := ha
  have hk : codeKnown (requestCode r) = true := by cases r <;> rfl
  have hr' : ¬ Config.replyRoom ≤ ((s.setRx h.link .hunting).link h.link).replies.length := by
    have := heard_replies h s
    simp only [heard] at this
    simp [this, Config.replyRoom]; omega
  simp [request, takeRequest, hs, hp, hk, hr', heard]

/-- R174, check 1: with eight replies waiting the frame is discarded. -/
theorem request_of_full {h : Header} {r : Request} {s : State} (closed : Bool)
    (hf : 8 ≤ (s.link h.link).replies.length) : request h r s closed = heard h s := by
  have hr' : Config.replyRoom ≤ ((s.setRx h.link .hunting).link h.link).replies.length := by
    have := heard_replies h s
    simp only [heard] at this
    simpa [this, Config.replyRoom] using hf
  simp [request, takeRequest, hr', heard]

/-- R174, check 3: a request the link may not send is refused. -/
theorem request_of_forbidden {h : Header} {r : Request} {s : State} (closed : Bool)
    (hr : (s.link h.link).replies.length < 8) (hp : permitted h.link (requestCode r) = false) :
    request h r s closed = (heard h s).refuse h.link h.tag .notPermitted := by
  have hk : codeKnown (requestCode r) = true := by cases r <;> rfl
  have hr' : ¬ Config.replyRoom ≤ ((s.setRx h.link .hunting).link h.link).replies.length := by
    have := heard_replies h s
    simp only [heard] at this
    simp [this, Config.replyRoom]; omega
  simp [request, takeRequest, hp, hk, hr', heard]

/-- R174, check 4: a permitted request of the wrong size is refused. -/
theorem request_of_badLength {h : Header} {r : Request} {s : State} (closed : Bool)
    (hr : (s.link h.link).replies.length < 8) (hp : permitted h.link (requestCode r) = true) (hs : sizeFits h r = false) :
    request h r s closed = (heard h s).refuse h.link h.tag .badLength := by
  have hk : codeKnown (requestCode r) = true := by cases r <;> rfl
  have hr' : ¬ Config.replyRoom ≤ ((s.setRx h.link .hunting).link h.link).replies.length := by
    have := heard_replies h s
    simp only [heard] at this
    simp [this, Config.replyRoom]; omega
  simp [request, takeRequest, hp, hk, hr', hs, heard]

/-- Every request command takes its request and lets the arbiters act. -/
theorem exec_of_request {i : Instr} {h : Header} {r : Request} (hi : i.request? = some (h, r)) (s : State) :
    exec i s = done (request h r s i.switchClosed) := by
  cases i <;> simp [Instr.request?] at hi <;> obtain ⟨rfl, rfl⟩ := hi <;> rfl

/-- An admitted request command is served on the link as it hunts again. -/
theorem exec_of_admitted {i : Instr} {h : Header} {r : Request} {s : State} (hi : i.request? = some (h, r))
    (ha : admitted h r s = true) : exec i s = done (serve i.switchClosed r h.link h.tag (heard h s)) := by
  rw [exec_of_request hi, request_of_admitted _ ha]

end Sys2Proof.Machine
end

