-- ==== Sys2Proof/Tests/Slice0.lean ====
section
/-! SUPPORT. Tests: an ill-formed term for each check of WellFormed, a few words written out by hand from R172, one small
test of many commands, and for each statement with hypotheses a witness that meets them, clause by clause, at the ends of
the ranges. Expected values come from the rules named beside them. -/

namespace Sys2Proof.Tests

open Sys2Proof.Machine

/-! ## Building blocks -/

def cellH (len : Nat) : Header := { link := .cell, tag := 1, len := len }
def lineH (len : Nat) : Header := { link := .line, tag := 1, len := len }

def cls1 : ClassEntry := { entryMin := 10, entryMax := 20, holdMin := 5, holdMax := 30, abort := 100, engage := 50 }
def pin1 : PinCell := { rank := 1, cls := 1 }
def type1 : TypeEntry :=
  { name := [65], cols := 1, rows := 1, ranks := 1, onsets := [0], seat := 500, tol := 20, slope := 1, touch := 20,
    patterns := [[some pin1]], assign := [1] }

/-- A finger position whose cell is present and tared. -/
def cell1 : PosEntry := { PosEntry.blank with status := .present, serial := some 9, cellKind := some 1, tared := true }

/-- A head at READY, four lanes wide, with one cell at position 1. -/
def head1 : Head :=
  { Head.reset with
    status := .ready, width := some .four, lanes := [1, 2, 3, 4], kind := some 1, orientation := some .normal
    enumerated := true, doneKind := some 1, doneOrientation := some .normal, table := cell1 :: List.replicate 47 PosEntry.blank }

/-- Guards shut. -/
def shut : Guards := { Guards.reset with states := List.replicate 8 .closed, firstOpened := none }

def qual1 : QualEntry := { level := .q1, interval := 1, count := 0 }

/-- A homed part with a class, a type, a qualification entry, a ready head and shut guards. -/
def base : State :=
  { State.reset with
    cat := { classes := [(1, cls1)], types := [(1, type1)] }
    head := head1
    guards := shut
    motion := { Motion.reset with stroke := .idle, referenced := true, homing := .homed, driveReady := true }
    qual := { Qualification.reset with table := [(17, qual1)] } }

def stroke (k : Stroke) (s : State) : State := s.onMotion (fun m => { m with stroke := k })
def ramp (r : Ramp) (s : State) : State := s.onMotion (fun m => { m with ramp := r })

def stepOf (b : StepBody) (last : Bool) : StepRecord := { body := b, last := last }

/-- A PREPARED streamed job with one step in its queue. -/
def job1 (b : StepBody) (last : Bool) : Job :=
  { newJob 1 1 [65] .streamed with queue := [stepOf b last], count := 1 }

def prepared (b : StepBody) : State := { base with job := some (job1 b false) }

/-- A press as START begins it, its first step in hand. -/
def running (b : StepBody) (last : Bool) : State := handOver (openPress (job1 b last) type1 qual1 base)

/-- A running press whose program has paused. -/
def paused : State :=
  stroke .paused (ramp .zero ((running (.dwell 5) false).onRun (fun r => { r with inHand := none, underrun := true })))

/-- A running press whose program has ended, its ram at rest. -/
def ended : State :=
  let s := stroke .idle (ramp .zero ((running (.dwell 5) true).onRun (fun r => { r with inHand := none, ended := true })))
  { s with profile := { s.profile with complete := true } }

/-- The record of that press. -/
def rec1 : Record := newRecord base (job1 (.dwell 5) true) type1 qual1 1

/-- A part with one record in a state, and the hold that HELD brings. -/
def stored (k : RecordState) : State :=
  { base with
    store := { records := [{ rec1 with state := k, verdict := some .review }], next := 2 }
    qual := if k = .held then base.qual.hold 1 else base.qual }

def full (l : Link) (s : State) : State :=
  s.onLink l (fun k => { k with replies := List.replicate 8 { tag := 0, status := .ok, body := [] }, tx := [noticeFrame 0
    { notice := .headDetached .ready, count := 1 }] })

/-- The state a command leads to. -/
def after (i : Instr) (s : State) : State :=
  match exec i s with
  | .next t => t
  | _ => s

/-- The status of the reply that a cell-link request gets from a part whose links are idle: it leaves at once. -/
def answerCode (i : Instr) (s : State) : Option Nat := ((after i s).cell.tx.head?).map (·.code)

/-! ## What WellFormed refuses (R172, R22, R29, R30, R35, R38, R163) -/

theorem test_header_tag : Header.wellFormed { link := .cell, tag := 65536, len := 0 } = false := by decide
theorem test_header_len : Header.wellFormed { link := .cell, tag := 0, len := 241 } = false := by decide
theorem test_class_force : ClassEntry.wellFormed { cls1 with entryMax := 65536 } = false := by decide
theorem test_class_engage : ClassEntry.wellFormed { cls1 with engage := 4294967296 } = false := by decide
theorem test_cell_class : cellWellFormed (some { rank := 1, cls := 17 }) = false := by decide
theorem test_cell_rank : cellWellFormed (some { rank := 17, cls := 1 }) = false ∧ cellWellFormed (some { rank := 0, cls := 1 }) = false := by
  decide
theorem test_type_name : TypeEntry.wellFormed { type1 with name := [256] } = false := by decide
theorem test_type_onsets : TypeEntry.wellFormed { type1 with onsets := [] } = false := by decide
theorem test_type_pattern : TypeEntry.wellFormed { type1 with patterns := [[]] } = false := by decide
theorem test_type_assign : TypeEntry.wellFormed { type1 with assign := [1, 1] } = false := by decide
theorem test_type_counts : TypeEntry.wellFormed { type1 with seat := 4294967296 } = false
    ∧ TypeEntry.wellFormed { type1 with tol := 4294967296 } = false ∧ TypeEntry.wellFormed { type1 with slope := 65536 } = false
    ∧ TypeEntry.wellFormed { type1 with touch := 65536 } = false := by decide
theorem test_offer_fields : StepOffer.wellFormed (.known (.move 4294967296 1)) = false
    ∧ StepOffer.wellFormed (.known (.probe 0 65536 0 0)) = false ∧ StepOffer.wellFormed (.known (.press 1 65536)) = false
    ∧ StepOffer.wellFormed (.known (.dwell 65536)) = false ∧ StepOffer.wellFormed (.known (.retract 0 65536)) = false
    ∧ StepOffer.wellFormed (.unknownKind 4) = false ∧ StepOffer.wellFormed (.unknownKind 256) = false := by decide
theorem test_request_fields : Request.wellFormed (.mask 256 0) = false ∧ Request.wellFormed (.classPut 256 cls1) = false
    ∧ Request.wellFormed (.classDrop 256) = false ∧ Request.wellFormed (.classGet 256) = false
    ∧ Request.wellFormed (.cataloguePut 65536 type1) = false ∧ Request.wellFormed (.catalogueDrop 65536) = false
    ∧ Request.wellFormed (.catalogueGet 65536) = false ∧ Request.wellFormed (.job 1 256 [] 0) = false
    ∧ Request.wellFormed (.step (.known (.dwell 0)) 256) = false ∧ Request.wellFormed (.step (.unknownKind 9) 1) = false := by
  decide
theorem test_request_fields_late : Request.wellFormed (.profileRead 0 65536 1) = false
    ∧ Request.wellFormed (.resultSummary 65536 0) = false ∧ Request.wellFormed (.resultColumn 1 256) = false
    ∧ Request.wellFormed (.resultPins 1 256) = false ∧ Request.wellFormed (.resultRelease 65536) = false
    ∧ Request.wellFormed (.qualify 1 256 0 0) = false ∧ Request.wellFormed (.qualifyGet 1 256) = false
    ∧ Request.wellFormed (.dispose 1 256 0) = false ∧ Request.wellFormed (.holdTime 65536) = false
    ∧ Request.wellFormed (.guardConfig []) = false := by decide
theorem test_alert : Alert.wellFormed { position := 0, kind := 0, value := 0, seq := 0 } = false
    ∧ Alert.wellFormed { position := 49, kind := 0, value := 0, seq := 0 } = false
    ∧ Alert.wellFormed { position := 1, kind := 256, value := 0, seq := 0 } = false
    ∧ Alert.wellFormed { position := 1, kind := 0, value := 65536, seq := 0 } = false
    ∧ Alert.wellFormed { position := 1, kind := 0, value := 0, seq := 256 } = false := by decide
theorem test_frame : rawWellFormed 32768 = false ∧ rawWellFormed (-32769) = false ∧ laneWellFormed 0 = false
    ∧ laneWellFormed 5 = false ∧ LaneFrame.wellFormed { lane := 1, raws := [32768], alerts := [] } = false := by decide
theorem test_instr : Instr.wellFormed (.ident { link := .cell, tag := 65536, len := 0 }) = false
    ∧ Instr.wellFormed (.unknownRequest (cellH 0) 31) = false ∧ Instr.wellFormed (.trainingAttemptTimeout [5]) = false
    ∧ Instr.wellFormed (.descriptorAnswer 16 .normal) = false ∧ Instr.wellFormed (.rollCallAnswer 1 1 0) = false
    ∧ Instr.wellFormed (.guardInputChange 9 true 0) = false
    ∧ Instr.wellFormed (.frameInstant 0 [{ lane := 5, raws := [], alerts := [] }]) = false := by decide
theorem test_instr_accepts : Instr.wellFormed (.cataloguePut (cellH 27) 1 type1) = true
    ∧ Instr.wellFormed (.unknownRequest (cellH 0) 32) = true ∧ Instr.wellFormed (.guardInputChange 8 true 0) = true := by decide

/-! ## Bytes written out by hand from R172 -/

/-- The usual check value of this CRC: the characters 1 to 9. -/
theorem test_crc : crc16 [0x31, 0x32, 0x33, 0x34, 0x35, 0x36, 0x37, 0x38, 0x39] = 0x29B1 := by decide +kernel
/-- CLASS PUT 2 of forces 1 to 5 and engage length 50. -/
theorem test_payload_class : encodeRequest (.classPut 2 ⟨1, 2, 3, 4, 0x105, 50⟩)
    = [2, 1, 0, 2, 0, 3, 0, 4, 0, 5, 1, 50, 0, 0, 0] := by decide
/-- A STEP of kind PROBE with the last flag clear. -/
theorem test_payload_step : decodeRequest 15 [1, 0, 0xE8, 3, 0, 0, 50, 0, 0, 0, 0, 0, 0, 4, 0, 0]
    = some (.step (.known (.probe 1000 50 0 1024)) 0) := by decide
/-- JOB of type 513 from position 3, serial "A", streamed. -/
theorem test_payload_job : decodeRequest 14 [1, 2, 3, 1, 65, 1] = some (.job 513 3 [65] 1) := by decide
/-- R13, R172: a pattern cell of rank 2 and class 3 travels as 19. -/
theorem test_cell_code : cellCode (some { rank := 2, cls := 3 }) = 19 ∧ cellOf 19 = some { rank := 2, cls := 3 } := by decide
/-- A signed position of −2 travels in two's complement. -/
theorem test_signed : wireBytes (.s32 (-2)) = [0xFE, 0xFF, 0xFF, 0xFF] := by decide
/-- Members 1 and 3 of a set are bits 0 and 2. -/
theorem test_set : wireBytes (.set [1, 3]) = [5, 0] := by decide

/-! ## Commands, one step each -/

/-- R180: the first byte of IDENT's reply is the vendor name's length, 7. -/
theorem test_ident : ((after (.ident (cellH 0)) base).cell.tx.head?).map (fun f => f.payload.take 2) = some [7, 82] := by decide
/-- R181: after a reset STATE answers UNHOMED at position 0. -/
theorem test_state : ((after (.state (cellH 0)) State.reset).cell.tx.head?).map (fun f => f.payload.take 5)
    = some [0, 0, 0, 0, 0] := by decide
/-- R178: a mask without HEAD_ATTACHED; kind 12 does not exist. -/
theorem test_mask : (after (.mask (cellH 3) 1 2046) base).cell.mask.length = 10
    ∧ answerCode (.mask (cellH 3) 1 2048) base = some 4 := by decide
/-- R174: codes outside the table, requests the line link may not send, wrong sizes. -/
theorem test_checks : answerCode (.unknownRequest (cellH 0) 32) base = some 1
    ∧ ((after (.home (lineH 0)) base).line.tx.head?).map (·.code) = some 2
    ∧ answerCode (.home (cellH 1)) base = some 3 := by decide
/-- R182: RESTART is refused while the ram moves. -/
theorem test_restart : answerCode (.restart (cellH 0)) (stroke .homing base) = some 5
    ∧ (after (.restart (cellH 0)) base).motion.stroke = .unhomed := by decide
/-- R4: the abort force must exceed the greatest entry force. -/
theorem test_class_put : answerCode (.classPut (cellH 15) 2 { cls1 with abort := 20 }) base = some 4
    ∧ ((after (.classPut (cellH 15) 2 cls1) base).cat.classes.map (·.1)) = [1, 2] := by decide
/-- R6: a class that a type names is not dropped. -/
theorem test_class_drop : answerCode (.classDrop (cellH 1) 1) base = some 9
    ∧ answerCode (.classDrop (cellH 1) 2) base = some 10 := by decide
theorem test_class_get : answerCode (.classGet (cellH 1) 1) base = some 0
    ∧ answerCode (.classGet (cellH 1) 17) base = some 4 := by decide
/-- R12: check 5, a tolerance of 19. -/
theorem test_catalogue_put : typeCheck base.cat.classes 2 { type1 with tol := 19 } = some ⟨5, 0, 0, 0, 0⟩
    ∧ typeCheck base.cat.classes 2 type1 = none := by decide
/-- R15: the type's qualification entries go with it. -/
theorem test_catalogue_drop : (after (.catalogueDrop (cellH 2) 1) base).qual.table = [] := by decide
theorem test_catalogue_get : answerCode (.catalogueGet (cellH 2) 1) base = some 0
    ∧ answerCode (.catalogueGet (cellH 2) 10000) base = some 4 := by decide
/-- R41: 64 samples of 3 and a remainder: floor((96 + 32) / 64) = 2, and −33 gives −1. -/
theorem test_tare_mean : tareMean 96 = 2 ∧ tareMean (-33) = -1 ∧ tareMean 31 = 0 := by decide
/-- R40: TARE's reply is deferred. -/
theorem test_tare : answerCode (.tare (cellH 0)) base = none ∧ (after (.tare (cellH 0)) base).head.tare.isSome = true := by
  decide
theorem test_retrain : (after (.retrain (cellH 0)) base).head.status = .training
    ∧ answerCode (.retrain (cellH 0)) State.reset = some 17 := by decide
theorem test_head_map : answerCode (.headMap (cellH 0)) base = some 0 := by decide +kernel
/-- R47: a job of two columns does not fit at position 48. -/
theorem test_job : answerCode (.job (cellH 6) 1 48 [65] 0) base = some 0
    ∧ answerCode (.job (cellH 6) 1 49 [65] 0) base = some 4 := by decide
/-- R51: a PRESS is not accepted before a PROBE. -/
theorem test_step : answerCode (.step (cellH 6) (.known (.press 10 1000)) 0) (prepared (.dwell 5)) = some 14
    ∧ answerCode (.step (cellH 4) (.known (.dwell 10001)) 0) (prepared (.dwell 5)) = some 4 := by decide
theorem test_step_flush : ((after (.stepFlush (cellH 0)) (prepared (.dwell 5))).job.map (·.queue)) = some [] := by decide
theorem test_start : answerCode (.start (cellH 0)) (prepared (.dwell 5)) = some 0
    ∧ (after (.start (cellH 0)) (prepared (.dwell 5))).motion.stroke = .running := by decide
theorem test_stop : (after (.stop (cellH 0)) (running (.move 1000 10) false)).motion.stroke = .stopping := by decide
/-- R59: no step is queued, so the program pauses and the underrun timer runs. -/
theorem test_pause : (after (.dwellElapsed 0) (running (.dwell 5) false)).underrunRuns = true := by decide
/-- R67, R70, R71: upward at 50, or with the switch closed at rest at once. -/
theorem test_home : (after (.home (cellH 0)) (stroke .unhomed base)).motion.commanded = -50
    ∧ (after (.home (cellH 0) true) (stroke .unhomed base)).motion.commanded = 0
    ∧ (after (.homingRest 7) (after (.home (cellH 0) true) (stroke .unhomed base))).motion.phase = .taring 7 0 0 := by decide
/-- The ramp output after a number of ram samples that it spends toward a goal. -/
def rampAfter (goal : Int) : Nat → Ramp → Ramp
  | 0, r => r
  | n + 1, r => rampAfter goal n (r.next goal)
/-- R69: 50 mm/s at 20,000 mm/s² is zero after 2.5 ms, which is 25 ram samples; R84: 20 mm/s has 10 ms of acceleration. -/
theorem test_ramp : rampAfter 0 24 (.falling 20000 500) = .falling 20000 20 ∧ rampAfter 0 25 (.falling 20000 500) = .zero
    ∧ rampAfter (-200) 99 .zero = .following (-198) ∧ rampAfter (-200) 100 .zero = .following (-200) := by decide +kernel
/-- R69: 100 mm/s stops in 2.5 mm at 2,000 mm/s². -/
theorem test_approach : mustFall 1000 1000 0 2501 = false ∧ mustFall 1000 1000 0 2500 = true
    ∧ mustFall (-200) (-200) 101 0 = false ∧ mustFall (-200) (-200) 100 0 = true := by decide
/-- R69, R83: the ram rests off position 0 after STOPPED, the guards shut: it retracts. -/
theorem test_follow_on : (after (.stopAtRest 700) (after (.stop (cellH 0)) (running (.move 1000 10) false))).motion.stroke
    = .retracting := by decide
theorem test_clear_fault : answerCode (.clearFault (cellH 0)) (stroke .faulted base) = some 0
    ∧ answerCode (.clearFault (cellH 0)) base = some 5 := by decide
/-- R87: a reading below the offset counts as 0, one of 60,000 saturates. -/
theorem test_ram_value : ramValue 5 4 = 0 ∧ ramValue 0 60000 = 60000 ∧ ramSaturated 0 60000 = true ∧ ramSaturated 0 59999 = false := by
  decide
/-- R35: the one present position takes the one sample of lane 1. -/
theorem test_frame_instant : (((after (.frameInstant 0 [{ lane := 1, raws := [12], alerts := [] }]) base).head.entry 1).latest)
    = some { value := 12, suspect := false } := by decide
/-- R36: the other lanes delivered no frame. -/
theorem test_bad_frames : (after (.frameInstant 0 [{ lane := 1, raws := [12], alerts := [] }]) base).head.bad = [0, 1, 1, 1] := by
  decide
/-- R96: five µm to a bin; depth 3,999 is in bin 799. -/
theorem test_bins : binOfDepth 4 = some 0 ∧ binOfDepth 5 = some 1 ∧ binOfDepth 3999 = some 799 ∧ binOfDepth 4000 = none
    ∧ binOfDepth (-1) = none := by decide
/-- R128: 5 dN over 2 pins is 2.5, rounded half up to 3. -/
theorem test_share : shareOf 5 2 = 3 ∧ shareOf 4 3 = 1 ∧ shareOf 5 3 = 2 := by decide
/-- R138: the number after 65,535 is 1. -/
theorem test_press_after : pressAfter 65535 = 1 ∧ pressAfter 1 = 2 := by decide
/-- R155: with interval 2 the second press is audited. -/
theorem test_audit : audit ⟨.q2, 2, 0⟩ = (⟨.q2, 2, 1⟩, false) ∧ audit ⟨.q2, 2, 1⟩ = (⟨.q2, 2, 0⟩, true) := by decide
theorem test_dispose : answerCode (.dispose (cellH 5) 1 0 42) (stored .held) = some 0
    ∧ answerCode (.dispose (cellH 5) 1 0 42) (stored .complete) = some 22 := by decide
theorem test_hold_time : (after (.holdTime (cellH 2) 10) base).qual.holdTime = 10
    ∧ answerCode (.holdTime (cellH 2) 9) base = some 4 := by decide
theorem test_release : answerCode (.resultRelease (cellH 2) 1) (stored .held) = some 20
    ∧ answerCode (.resultRelease (cellH 2) 1) (stored .disposed) = some 0 := by decide
theorem test_guard : (after (.guardInputChange 3 true 0) base).openSet = [3]
    ∧ (after (.guardInputChange 3 true 0) base).guards.firstOpened = some (.input 3) := by decide
/-- R170: kind 5 does not exist. -/
theorem test_guard_config : answerCode (.guardConfig (cellH 8) [4, 4, 4, 4, 4, 4, 4, 5]) base = some 4
    ∧ (after (.guardConfig (cellH 8) [0, 4, 4, 4, 4, 4, 4, 3]) base).guards.kinds.getLast? = some .estop := by decide
theorem test_drive_fault : (after (.driveFaultInput 0) base).motion.stroke = .faulted := by decide
theorem test_rest_report : (after .restReport ended).job = none
    ∧ (after .restReport ended).store.records.map (·.state) = [.held] := by decide

/-! ## Witnesses: states and operands that meet each statement's hypotheses, clause by clause -/

theorem witness_StepTakesTheFront : ({ base with pending := [.powerOn] } : State).pending = [.powerOn] ∧ base.pending = [] := by
  decide

theorem witness_ResetsBringEveryBlockBack :
    let ok := fun s : State => admitted (cellH 0) .restart s = true
    ok base ∧ base.motion.stroke = .idle ∧ base.motion.ramp.output = 0 ∧ ok (ramp (.falling 2000 2) base)
    ∧ (ramp (.falling 2000 2) base).motion.ramp.output ≠ 0 ∧ ok (stroke .unhomed base) ∧ ok paused ∧ paused.motion.stroke = .paused
    ∧ paused.motion.ramp.output = 0 ∧ ok (stroke .faulted base) ∧ ok (stroke .homing base) ∧ ok (stroke .running base)
    ∧ ok (stroke .stopping base) ∧ ok (stroke .retracting base) := by decide

theorem witness_RequestChecksInOrder :
    (Instr.ident (cellH 0)).request? = some (cellH 0, .ident)
    ∧ 8 ≤ ((full .cell base).link .cell).replies.length ∧ (base.link .line).replies.length < 8
    ∧ (Instr.home (lineH 0)).request? = some (lineH 0, .home) ∧ requestCode .home ∉ [1, 2, 3, 17, 18, 29, 23, 30]
    ∧ sizeFits (cellH 1) .ident = false ∧ sizeFits (lineH 3) (.holdTime 0) = false
    ∧ requestCode (.holdTime 0) ∈ [1, 2, 3, 17, 18, 29, 23, 30] := by decide

theorem witness_ReceiverFramesBytes :
    let on := fun bs => base.setRx .cell (.assembling bs)
    (base.link .cell).rx = .hunting
    ∧ ((on []).link .cell).rx = .assembling [] ∧ ([] ++ [(241 : Byte)]).head? = some 241 ∧ 240 < (241 : Byte).toNat
    ∧ (240 : Byte).toNat ≤ 240 ∧ ([] ++ [(240 : Byte)]).length < (240 : Byte).toNat + 7
    ∧ ((on [0, 1, 0, 0, 1, 0]).link .cell).rx = .assembling [0, 1, 0, 0, 1, 0]
    ∧ ([0, 1, 0, 0, 1, 0] ++ [(0 : Byte)]).length = (0 : Byte).toNat + 7
    ∧ ([0, 1, 0, 0, 1, 0] ++ [(0 : Byte)]).drop 5
        ≠ bytes16 (crc16 (([0, 1, 0, 0, 1, 0] ++ [(0 : Byte)]).take 5)).toNat
    ∧ ([0, 2, 0, 0, 1, 0] ++ [(0 : Byte)])[1]? ≠ some 1 := by decide +kernel

theorem witness_PayloadDecodesToItsRequest : Request.wellFormed (.classDrop 255) = true ∧ Request.wellFormed .ident = true
    ∧ Request.wellFormed (.cataloguePut 65535 type1) = true ∧ Request.wellFormed (.step (.unknownKind 5) 0) = true := by decide

theorem witness_FrameBytesDoWhatTheirRequestDoes :
    (Instr.home (cellH 0) true).request? = some (cellH 0, .home) ∧ (cellH 0).wellFormed = true ∧ Request.home.wellFormed = true
    ∧ (cellH 0).len = requestSize .home
    ∧ (Instr.classDrop (cellH 1) 255).request? = some (cellH 1, .classDrop 255) ∧ (cellH 1).wellFormed = true
    ∧ Request.wellFormed (.classDrop 255) = true ∧ (cellH 1).len = requestSize (.classDrop 255)
    ∧ (base.link .cell).rx = .hunting ∧ base.arbiters = base := by decide

theorem witness_RepliesGoOutInChains :
    let n : PendingNotice := { notice := .headDetached .ready, count := 1 }
    let f := noticeFrame 0 n
    let r : Reply := { tag := 0, status := .ok, body := [] }
    let on := fun k => base.onLink .cell (fun _ => k)
    let k := base.cell
    arbitrate (base.link (otherLink .cell)) = base.link (otherLink .cell)
    ∧ (on { k with tx := [f, f] }).link .cell = { k with tx := f :: f :: [] }
    ∧ (on { k with tx := [f], replies := [r], notices := [n] }).link .cell = { k with tx := [f], replies := r :: [], notices := [n] }
    ∧ (on { k with tx := [f], notices := [n] }).link .cell = { k with tx := [f], notices := n :: [] }
    ∧ (on { k with tx := [f] }).link .cell = { k with tx := [f] } ∧ [f].length ≤ 1 ∧ base.cell.tx.length ≤ 1
    ∧ f ∈ replyFrames r ++ [f] := by decide

theorem witness_NoticeIsEnteredOrCoalesced :
    let n : Notice := .headDetached .ready
    let k := raiseOn (.headDetached .training) base.cell
    noticeKind n ∉ base.line.mask ∧ noticeKind n ∈ base.cell.mask ∧ base.cell.notices = []
    ∧ noticeKind n ∈ k.mask ∧ k.notices = [] ++ { notice := .headDetached .training, count := 1 } :: []
    ∧ noticeKind (.headDetached .training) = noticeKind n := by decide

theorem witness_MaskIdentAndStateAnswer :
    admitted (cellH 3) (.mask 0 0) base = true ∧ admitted (cellH 3) (.mask 1 2047) base = true ∧ 2047 < 2 ^ 11
    ∧ admitted (lineH 3) (.mask 1 0) base = true ∧ admitted (cellH 3) (.mask 1 2048) base = true ∧ 2 ^ 11 ≤ 2048
    ∧ admitted (cellH 3) (.mask 2 0) base = true ∧ admitted (cellH 0) .ident base = true ∧ admitted (lineH 0) .ident base = true
    ∧ admitted (cellH 0) .state base = true ∧ admitted (lineH 0) .state ended = true := by decide





theorem witness_LinkQueuesStayBounded :
    step base = .next base ∧ idleMeansEmpty base.cell ∧ idleMeansEmpty base.line ∧ LinksSound base :=
  ⟨rfl, by unfold idleMeansEmpty; decide, by unfold idleMeansEmpty; decide,
    ⟨⟨by decide, by decide, by decide⟩, ⟨by decide, by decide, by decide⟩, by decide, by decide⟩⟩

theorem witness_ClassPutChecksAndStores :
    let ok := fun (n : Nat) (e : ClassEntry) => admitted (cellH 15) (.classPut n e) base = true
    let far : ClassEntry := { cls1 with engage := 1000 }
    ok 0 cls1 ∧ ok 17 cls1 ∧ ok 16 { cls1 with entryMax := 9 } ∧ ok 1 { cls1 with entryMax := 20001 }
    ∧ ok 1 { cls1 with holdMax := 4 } ∧ ok 1 { cls1 with abort := 20 } ∧ ok 1 { cls1 with abort := 20001 }
    ∧ ok 1 { cls1 with engage := 49 } ∧ ok 1 { cls1 with engage := 1001 } ∧ ok 1 { cls1 with engage := 51 }
    ∧ admitted (cellH 15) (.classPut 1 cls1) (prepared (.dwell 5)) = true ∧ (prepared (.dwell 5)).jobNames 1 = true
    ∧ (prepared (.dwell 5)).job = some (job1 (.dwell 5) false) ∧ tabGet (prepared (.dwell 5)).cat.types 1 = some type1
    ∧ (∃ q ∈ columnPins type1 1, q.cls = 1)
    ∧ ok 1 far ∧ base.jobNames 1 = false
    ∧ (base.cat.types.find? (fun t => namesClass t.2 1 && (List.range' 1 t.2.ranks).any (fun r =>
        decide (t.2.seat - t.2.tol < onsetOf t.2 r + rankEngage (tabPut base.cat.classes 1 far) t.2 r)))) = some (1, type1)
    ∧ (base.cat.types.find? (fun t => namesClass t.2 1 && (List.range' 1 t.2.ranks).any (fun r =>
        decide (t.2.seat - t.2.tol < onsetOf t.2 r + rankEngage (tabPut base.cat.classes 1 cls1) t.2 r)))) = none := by decide

/-- A part whose class 2 no type names. -/
def spare : State := { base with cat := { base.cat with classes := [(1, cls1), (16, cls1)] } }

theorem witness_ClassDropVacatesThePlace :
    admitted (cellH 1) (.classDrop 0) spare = true ∧ admitted (cellH 1) (.classDrop 17) spare = true
    ∧ tabSorted spare.cat.types = true ∧ admitted (cellH 1) (.classDrop 2) spare = true ∧ tabGet spare.cat.classes 2 = none
    ∧ admitted (cellH 1) (.classDrop 1) spare = true ∧ tabGet spare.cat.classes 1 ≠ none
    ∧ (1, type1) ∈ spare.cat.types ∧ namesClass type1 1 = true
    ∧ (∀ u ∈ spare.cat.types, namesClass u.2 1 = true → 1 ≤ u.1)
    ∧ admitted (cellH 1) (.classDrop 16) spare = true ∧ tabGet spare.cat.classes 16 ≠ none
    ∧ (∀ t ∈ spare.cat.types, namesClass t.2 16 = false) := by decide

/-- A type of two columns, two rows and two ranks that meets every check, its second rank as deep as check 11 lets it be. -/
def type2 : TypeEntry :=
  { name := [32, 126], cols := 2, rows := 2, ranks := 2, onsets := [0, 430], seat := 500, tol := 20, slope := 200
    touch := 500, patterns := [[some ⟨1, 1⟩, some ⟨2, 1⟩], [none, some ⟨1, 1⟩]], assign := [2, 1] }

/-- A type of nine columns, each with its own pattern. -/
def type9 : TypeEntry :=
  { type1 with cols := 9, patterns := List.replicate 9 [some pin1], assign := List.range' 1 9 }

/-- Two classes, and a well-formed entry whose check reports so. -/
def cs : List (Nat × ClassEntry) := [(1, cls1), (16, cls1)]
abbrev reports (id : Nat) (e : TypeEntry) (k p c i r : Nat) : Prop :=
  e.wellFormed = true ∧ typeCheck cs id e = some ⟨k, p, c, i, r⟩

theorem witness_CatalogueChecksReportTheFirstFault :
    let row3 : TypeEntry := { type2 with patterns := [[none, some ⟨2, 1⟩], [some ⟨1, 1⟩, some ⟨1, 16⟩]], assign := [1, 2] }
    reports 0 type2 1 0 0 0 0 ∧ reports 10000 type2 1 0 0 0 0
    ∧ reports 9999 { type2 with name := [] } 2 0 0 0 0 ∧ reports 1 { type2 with name := [127] } 2 0 0 0 0
    ∧ reports 1 { type9 with cols := 0, assign := [] } 3 0 0 0 0
    ∧ reports 1 { type2 with onsets := [0, 95] } 4 0 0 0 2 ∧ ¬ (onsetOf { type2 with onsets := [0, 95] } 1 % 5 ≠ 0)
    ∧ onsetOf { type2 with onsets := [0, 95] } 2 < onsetOf { type2 with onsets := [0, 95] } 1 + 100
    ∧ reports 1 { type2 with onsets := [3, 430] } 4 0 0 0 1 ∧ reports 1 { type2 with tol := 19 } 5 0 0 0 0
    ∧ reports 1 { type2 with seat := 3800, tol := 146 } 5 0 0 0 0 ∧ reports 1 { type2 with slope := 201 } 6 0 0 0 0
    ∧ reports 1 { type2 with touch := 19 } 6 0 0 0 0
    ∧ reports 1 { type2 with assign := [2, 3] } 7 0 2 0 0 ∧ type2.patterns.length < [2, 3].getD (2 - 1) 0
    ∧ ¬ ([2, 3].getD (1 - 1) 0 = 0 ∨ type2.patterns.length < [2, 3].getD (1 - 1) 0)
    ∧ reports 1 { type2 with assign := [0, 1] } 7 0 1 0 0
    ∧ reports 1 { type2 with assign := [1, 1] } 7 2 0 0 0 ∧ (∀ j ∈ [1, 2], [1, 1].getD (j - 1) 0 ≠ 2) ∧ [1, 1].getD (1 - 1) 0 = 1
    ∧ reports 1 type9 7 0 0 0 0 ∧ 8 < type9.patterns.length
    ∧ (∀ j ∈ List.range' 1 9, type9.assign.getD (j - 1) 0 = j)
    ∧ reports 1 { type2 with patterns := [[some ⟨1, 1⟩, some ⟨2, 1⟩], [none, some ⟨1, 2⟩]] } 8 2 0 2 0 ∧ tabGet cs 2 = none
    ∧ reports 1 { type2 with patterns := [[some ⟨3, 1⟩, some ⟨2, 1⟩], [none, some ⟨1, 1⟩]] } 8 1 0 1 0
    ∧ reports 1 row3 9 0 2 0 1 ∧ columnPins row3 2 = [⟨1, 1⟩, ⟨1, 16⟩] ∧ columnPins row3 1 = [⟨2, 1⟩]
    ∧ reports 1 { type2 with patterns := [[some ⟨1, 1⟩, none], [none, some ⟨1, 16⟩]] } 10 0 0 0 2
    ∧ (∀ c ∈ gridPins { type2 with patterns := [[some ⟨1, 1⟩, none], [none, some ⟨1, 16⟩]] }, c.rank ≠ 2)
    ∧ reports 1 { type2 with onsets := [0, 435] } 11 0 0 0 2 ∧ type2.seat - type2.tol < 435 + rankEngage cs type2 2
    ∧ type2.wellFormed = true ∧ typeCheck cs 9999 type2 = none := by
  repeat' apply And.intro
  all_goals decide +kernel

/-- A part with all 64 types. -/
def crowded : State := { base with cat := { base.cat with types := (List.range' 1 64).map (fun i => (i, type1)) } }

theorem witness_CatalogueEditsTheTypeTable :
    admitted (cellH 26) (.cataloguePut 10000 type1) base = true
    ∧ typeCheck base.cat.classes 10000 type1 = some ⟨1, 0, 0, 0, 0⟩
    ∧ admitted (cellH 26) (.cataloguePut 1 type1) (prepared (.dwell 5)) = true ∧ typeCheck base.cat.classes 1 type1 = none
    ∧ (prepared (.dwell 5)).job.map (·.typeId) = some 1
    ∧ admitted (cellH 26) (.cataloguePut 9999 type1) crowded = true ∧ tabGet crowded.cat.types 9999 = none
    ∧ 64 ≤ crowded.cat.types.length ∧ admitted (cellH 26) (.cataloguePut 9999 type1) base = true
    ∧ base.cat.types.length < 64 ∧ base.job.map (·.typeId) ≠ some 1 ∧ tabGet base.cat.types 1 ≠ none
    ∧ admitted (cellH 2) (.catalogueDrop 0) base = true ∧ admitted (cellH 2) (.catalogueDrop 10000) base = true
    ∧ admitted (cellH 2) (.catalogueDrop 9999) base = true ∧ tabGet base.cat.types 9999 = none
    ∧ admitted (cellH 2) (.catalogueDrop 1) (prepared (.dwell 5)) = true ∧ admitted (cellH 2) (.catalogueDrop 1) base = true := by
  decide +kernel

theorem witness_CatalogueReadsChangeNothing :
    admitted (cellH 1) (.classGet 0) base = true ∧ admitted (cellH 1) (.classGet 17) base = true
    ∧ admitted (cellH 1) (.classGet 16) base = true ∧ tabGet base.cat.classes 16 = none
    ∧ admitted (cellH 1) (.classGet 1) base = true ∧ tabGet base.cat.classes 1 = some cls1
    ∧ admitted (cellH 2) (.catalogueGet 0) base = true ∧ admitted (cellH 2) (.catalogueGet 10000) base = true
    ∧ admitted (cellH 2) (.catalogueGet 9999) base = true ∧ tabGet base.cat.types 9999 = none
    ∧ admitted (cellH 2) (.catalogueGet 1) base = true ∧ tabGet base.cat.types 1 = some type1 := by decide

theorem witness_TablesStaySound : TablesSound base ∧ step base = .next base :=
  ⟨⟨by decide, by decide, by decide, by decide, fun _ h => by cases h⟩, rfl⟩

/-- A head under way in training or enumeration. -/
def headIn (k : HeadStatus) (g : EnumStage) (attempt : Nat) : State :=
  { base with head := { head1 with status := k, stage := g, attempt := attempt } }

def lane8 (w : Width) : State := { base with head := { head1 with width := some w, bad := [8, 0, 0, 0] } }

theorem witness_HeadComesAndGoes :
    let retrain := fun s : State => admitted (cellH 0) .retrain s = true
    let low : State := { base with head := { head1 with bad := [7, 7, 7, 7] } }
    State.reset.head.status = .detached ∧ base.head.status ≠ .detached ∧ base.head.status = .ready
    ∧ (∃ n ∈ (lane8 .four).head.bad, 8 ≤ n) ∧ (∃ n ∈ (lane8 .two).head.bad, 8 ≤ n) ∧ (∃ n ∈ (lane8 .one).head.bad, 8 ≤ n)
    ∧ (lane8 .four).monitor.phase ≠ .watching ∧ (lane8 .four).monitor.phase ≠ .pressing ∧ (∀ n ∈ low.head.bad, n < 8)
    ∧ (headIn .training .none 1).head.status ≠ .ready ∧ base.monitor.phase ≠ .watching ∧ base.monitor.phase ≠ .pressing
    ∧ (stroke .idle (running (.dwell 5) false)).head.status ≠ .detached
    ∧ retrain State.reset ∧ retrain { ended with head := Head.reset } ∧ ended.run ≠ none
    ∧ retrain (running (.dwell 5) false) ∧ (running (.dwell 5) false).run ≠ none ∧ retrain base ∧ base.run = none
    ∧ base.monitor.phase = .inactive ∧ retrain (headIn .training .none 1) ∧ retrain (headIn .enumerating .descriptor 0)
    ∧ retrain (headIn .noLink .none 0) ∧ (headIn .noLink .none 0).head.status = .noLink := by decide

theorem witness_HeadTrainsAndEnumerates :
    (headIn .training .none 1).head.status = .training ∧ (headIn .training .none 1).head.attempt = 1
    ∧ (headIn .training .none 7).head.attempt = 7 ∧ (headIn .enumerating .descriptor 0).head.status = .enumerating
    ∧ (headIn .enumerating .descriptor 0).head.stage = .descriptor ∧ (headIn .enumerating .rollCall 0).head.stage = .rollCall := by
  decide

/-- A roll call with one answer for position 1 (its cell again), one for position 2, two for position 48, one for 49. -/
def called : State :=
  { base with head := { head1 with
    status := .enumerating, stage := .rollCall
    answers := [⟨9, 1, 1⟩, ⟨10, 2, 1⟩, ⟨11, 48, 1⟩, ⟨12, 48, 1⟩, ⟨13, 49, 1⟩] } }

theorem witness_RollCallSettlesThePositions :
    called.head.status = .enumerating ∧ called.head.stage = .rollCall
    ∧ called.head.answers.filter (fun a => a.position = 3) = []
    ∧ 2 ≤ (called.head.answers.filter (fun a => a.position = 48)).length
    ∧ called.head.answers.filter (fun a => a.position = 2) = [⟨10, 2, 1⟩] ∧ (called.head.entry 2).status ≠ .present
    ∧ called.head.answers.filter (fun a => a.position = 1) = [⟨9, 1, 1⟩] ∧ (called.head.entry 1).status = .present
    ∧ (called.head.entry 1).serial = some 9 := by decide

/-- A tare with 64 instants behind it: 64 samples of position 1, 63 of position 48. -/
def tare64 : Tare := { tag := 1, instants := 64, sums := [⟨1, 96, 64⟩, ⟨48, 0, 63⟩] }
def taring : State := { base with head := { head1 with tare := some tare64 } }

theorem witness_TareStoresTheOffsets :
    admitted (cellH 0) .tare State.reset = true ∧ State.reset.head.status ≠ .ready
    ∧ admitted (cellH 0) .tare taring = true ∧ taring.head.status = .ready ∧ taring.head.tare ≠ none
    ∧ admitted (cellH 0) .tare (stroke .homing base) = true ∧ (stroke .homing base).motion.stroke ≠ .idle
    ∧ (stroke .homing base).motion.stroke ≠ .unhomed ∧ admitted (cellH 0) .tare ended = true ∧ ended.run ≠ none
    ∧ admitted (cellH 0) .tare base = true ∧ base.head.tare = none ∧ base.run = none ∧ base.motion.stroke = .idle
    ∧ taring.head.tare = some tare64 ∧ tare64.instants = 64 ∧ taring.head.table.length = 48
    ∧ (tare64.sums.map (·.position)).Nodup ∧ (∀ u ∈ tare64.sums, 1 ≤ u.position ∧ u.position ≤ 48)
    ∧ taring.head.table[0]? = some cell1 := by decide

theorem witness_LaneFramesCarryTheSlots :
    let f : LaneFrame := { lane := 1, raws := [12], alerts := [] }
    let short : LaneFrame := { lane := 1, raws := [], alerts := [] }
    let two : Head := { head1 with width := some .two, lanes := [3, 4] }
    let one : Head := { head1 with width := some .one, lanes := [4] }
    head1.width = some .four ∧ head1.lanes = [1, 2, 3, 4] ∧ (head1.entry 1).status = .present ∧ (head1.entry 48).status ≠ .present
    ∧ two.width = some .two ∧ two.lanes = [3, 4] ∧ one.width = some .one ∧ one.lanes = [4] ∧ one.slots 4 = [1] ∧ two.slots 3 = [1]
    ∧ [short, f, f] = [short] ++ f :: [f] ∧ f.lane = 1 ∧ f.raws.length = (head1.slots 1).length
    ∧ short.raws.length ≠ (head1.slots 1).length ∧ (∀ g ∈ [f], g.lane ≠ 4) ∧ head1.lanes.Nodup := by decide

theorem witness_FrameInstantTakesSamples :
    let fs : List LaneFrame := [{ lane := 1, raws := [20000], alerts := [] }]
    base.head.status = .ready ∧ (∀ n ∈ base.head.bad, n < 8) ∧ base.run = none ∧ base.head.bad.length = 4
    ∧ base.head.table.length = 48 ∧ (∀ l ∈ base.head.lanes, ((base.head.goodFrame fs l).map (·.alerts)).getD [] = [])
    ∧ ((base.head.goodFrame [{ lane := 1, raws := [0], alerts := [{ position := 1, kind := 0, value := 7, seq := 1 }] }] 1).map
        (fun f => f.alerts.length)) = some 1
    ∧ ((base.head.rawSamples fs).map (·.1)).Nodup ∧ (1, 20000) ∈ base.head.rawSamples fs
    ∧ base.head.table[0]? = some cell1 ∧ base.head.table[47]? = some PosEntry.blank
    ∧ (∀ r ∈ base.head.rawSamples fs, r.1 ≠ 48) ∧ base.head.bad[3]? = some 0 ∧ State.reset.head.status ≠ .ready
    ∧ (∃ n ∈ (lane8 .four).head.bad, 8 ≤ n) := by decide

/-- A press in its PRESS step, its profile binning, with the leading ram bin and its value as given. -/
def pressing (leading value : Nat) : State :=
  let s := running (.press 10 1000) false
  { s with profile := { s.profile with
    touch := some 0, bases := some [{ value := 3, suspect := false }], binning := true, leading := some leading
    deepest := some leading
    channels := [[(leading, { value := value, empty := false, filled := false, suspect := false })], []] } }

theorem witness_FrameInstantFeedsThePress :
    let p := pressing 2 7
    let finger := fun raw : Int => (p.head.takeFrames [{ lane := 1, raws := [raw], alerts := [] }]).2
    let d := running (.dwell 5) false
    p.job.isSome = true ∧ (p.run.map (·.map)) = some [1] ∧ p.head.status = .ready ∧ (∀ n ∈ p.head.bad, n < 8)
    ∧ p.monitor.phase = .pressing ∧ (p.monitor.limits.map (·.caps)) = some [some 100]
    ∧ finger 101 = [(1, { value := 101, suspect := false })] ∧ finger 100 = [(1, { value := 100, suspect := false })]
    ∧ (p.inHand.map (fun h => bodyKind h.record.body)) = some .press ∧ p.profile.binning = true
    ∧ (p.run.map (·.fingersGone)) = some false ∧ d.job.isSome = true ∧ d.run.isSome = true ∧ d.monitor.phase ≠ .pressing := by
  decide

/-- A press whose monitor is SETTLED. -/
def settled : State := { ended with monitor := { ended.monitor with phase := .settled } }

theorem witness_CellAlertIsTakenOnce :
    let seen : PosEntry := { cell1 with lastSeq := some 255 }
    let maps := fun s : State => s.head.table[1 - 1]? = some cell1 ∧ s.job.isSome = true ∧ (s.run.map (·.map)) = some [1]
    base.head.table[1 - 1]? = some cell1 ∧ cell1.status = .present ∧ cell1.lastSeq ≠ some 255 ∧ base.monitor.phase = .inactive
    ∧ base.head.table[48 - 1]? = some PosEntry.blank ∧ PosEntry.blank.status ≠ .present
    ∧ ({ base with head := { head1 with table := [seen] } } : State).head.table[1 - 1]? = some seen
    ∧ seen.lastSeq = some 255 ∧ cell1.failed = false ∧ ({ cell1 with failed := true } : PosEntry).failed = true
    ∧ (∀ r ∈ (running (.dwell 5) false).run, 2 ∉ r.map) ∧ maps settled ∧ settled.monitor.phase = .settled
    ∧ maps (running (.dwell 5) false) ∧ (running (.dwell 5) false).monitor.phase = .watching
    ∧ (running (.dwell 5) false).inHand.isSome = true
    ∧ maps (pressing 2 7) ∧ (pressing 2 7).monitor.phase = .pressing ∧ (pressing 2 7).inHand.isSome = true
    ∧ maps paused ∧ paused.inHand = none ∧ paused.motion.stroke = .paused ∧ paused.monitor.phase = .watching := by decide

theorem witness_HeadMapShowsTheTable : admitted (cellH 0) .headMap base = true ∧ admitted (cellH 0) .headMap State.reset = true := by
  decide

theorem cell1_sound : EntrySound cell1 :=
  ⟨by decide, rfl, by decide, by decide, by decide, fun v h => by cases h⟩

theorem blank_sound : EntrySound PosEntry.blank :=
  ⟨by decide, rfl, by decide, by decide, by decide, fun v h => by cases h⟩

theorem head1_sound : HeadSound head1 where
  table := ⟨by decide, fun e he => by
    rcases List.mem_cons.mp he with rfl | he
    · exact cell1_sound
    · cases List.eq_of_mem_replicate he; exact blank_sound⟩
  bad := by decide
  unused := fun l h h' _ => by
    have : l = 1 ∨ l = 2 ∨ l = 3 ∨ l = 4 := by omega
    rcases this with rfl | rfl | rfl | rfl <;> rfl
  failed := by decide
  width := by decide
  lanes := by decide
  attempt := by decide
  stage := by decide
  answers := by decide
  kinds := fun k h => by rcases h with h | h <;> cases h <;> decide
  named := by decide
  done := by decide
  ready := by decide
  tare := fun t h => by cases h

theorem shut_sound : GuardsSound shut :=
  ⟨by decide, by decide, by decide, fun i h => by rcases h with h | h <;> cases h⟩

theorem witness_HeadAndGuardsStaySound : HeadSound base.head ∧ GuardsSound base.guards ∧ step base = .next base :=
  ⟨head1_sound, shut_sound, rfl⟩

theorem witness_JobIsPrepared :
    admitted (cellH 6) (.job 1 1 [65] 0) (prepared (.dwell 5)) = true ∧ (prepared (.dwell 5)).job ≠ none
    ∧ base.job = none ∧ admitted (cellH 6) (.job 10000 1 [65] 0) base = true ∧ admitted (cellH 6) (.job 1 49 [65] 0) base = true
    ∧ admitted (cellH 5) (.job 1 1 [] 0) base = true ∧ admitted (cellH 6) (.job 1 1 [31] 0) base = true
    ∧ admitted (cellH 6) (.job 1 1 [65] 2) base = true ∧ admitted (cellH 6) (.job 9999 1 [65] 1) base = true
    ∧ tabGet base.cat.types 9999 = none ∧ tabGet base.cat.types 1 = some type1 ∧ 1 ≤ type1.cols
    ∧ admitted (cellH 6) (.job 1 48 [126] 1) base = true ∧ 48 + type1.cols - 1 ≤ 48
    ∧ tabGet [(2, { type1 with cols := 2 })] 2 = some { type1 with cols := 2 } ∧ 48 < 48 + 2 - 1
    ∧ admitted (cellH 6) (.job 2 48 [65] 0) { base with cat := { base.cat with types := [(2, { type1 with cols := 2 })] } } = true := by
  decide

/-- A PREPARED job at a grammar position with so many steps queued and counted. -/
def jobAt (g : Grammar) (queued count : Nat) : State :=
  { base with job := some { job1 (.dwell 5) false with
    grammar := g, queue := List.replicate queued (stepOf (.dwell 5) false), count := count } }

theorem witness_StepJoinsTheQueue :
    let dwell : Request := .step (.known (.dwell 10000)) 1
    admitted (cellH 4) dwell base = true ∧ base.openJob = none ∧ ended.openJob = none
    ∧ (jobAt .opening 15 15).openJob = some { job1 (.dwell 5) false with
        queue := List.replicate 15 (stepOf (.dwell 5) false), count := 15 }
    ∧ admitted (cellH 4) (.step (.known (.dwell 10001)) 0) (jobAt .opening 15 15) = true ∧ bodyInRange (.dwell 10001) = false
    ∧ admitted (cellH 4) (.step (.known (.dwell 0)) 2) (jobAt .opening 15 15) = true
    ∧ admitted (cellH 1) (.step (.unknownKind 255) 0) (jobAt .opening 15 15) = true
    ∧ admitted (cellH 4) dwell (jobAt .closing 0 1) = true ∧ bodyInRange (.dwell 10000) = true
    ∧ grammarNext .closing .dwell = none ∧ grammarNext .opening .dwell = some .opening
    ∧ admitted (cellH 4) dwell (jobAt .opening 16 16) = true ∧ admitted (cellH 4) dwell (jobAt .opening 15 16) = true
    ∧ admitted (cellH 4) dwell (jobAt .opening 15 15) = true
    ∧ admitted (cellH 4) dwell paused = true ∧ paused.motion.stroke = .paused
    ∧ (paused.run.map (·.ended)) = some false ∧ (paused.job.map (·.queue)) = some [] ∧ (paused.job.map (·.grammar)) = some .opening
    ∧ (paused.job.map (·.count)) = some 1 := by decide

theorem witness_StepFlushEmptiesTheQueue :
    admitted (cellH 0) .stepFlush base = true ∧ base.job = none ∧ admitted (cellH 0) .stepFlush ended = true
    ∧ (ended.job.map (fun j => j.run.isSome)) = some true ∧ admitted (cellH 0) .stepFlush (prepared (.dwell 5)) = true
    ∧ (prepared (.dwell 5)).job = some (job1 (.dwell 5) false) ∧ (job1 (.dwell 5) false).run = none
    ∧ (lineH 0).link = .line ∧ base.line.replies.length < 8 := by decide

theorem witness_StartRefusesInOrder :
    let ok := fun s : State => admitted (cellH 0) .start s = true
    let s0 := prepared (.dwell 5)
    ok base ∧ base.job = none ∧ ok ended ∧ (ended.job.map (fun j => j.run.isSome)) = some true
    ∧ s0.job = some (job1 (.dwell 5) false) ∧ tabGet s0.cat.types 1 = some type1
    ∧ ok (stroke .unhomed s0) ∧ ok (stroke .faulted s0) ∧ ok (stroke .homing s0) ∧ ok (stroke .retracting s0)
    ∧ ok s0 ∧ s0.motion.stroke = .idle ∧ s0.openSet = [] ∧ s0.head.status = .ready ∧ s0.head.tare = none
    ∧ ({ s0 with guards := Guards.reset } : State).openSet ≠ []
    ∧ ({ s0 with head := Head.reset } : State).head.status ≠ .ready ∧ ({ s0 with head := taring.head } : State).head.tare ≠ none
    ∧ ({ s0 with qual := Qualification.reset } : State).qualEntry (job1 (.dwell 5) false) = none
    ∧ s0.qualEntry (job1 (.dwell 5) false) = some qual1 ∧ qual1.level = .q1
    ∧ ({ head1 with table := [] } : Head).ready 1 = false ∧ s0.head.ready 1 = true
    ∧ (∃ r ∈ (stored .held).store.records, r.state = .held)
    ∧ (List.replicate 32 rec1).length = 32 ∧ (∀ r ∈ List.replicate 32 rec1, r.state ≠ .held)
    ∧ (job1 (.dwell 5) false).mode = .streamed ∧ (newJob 1 1 [65] .streamed).queue = []
    ∧ (newJob 1 1 [65] .preloaded).mode = .preloaded ∧ (newJob 1 1 [65] .preloaded).grammar ≠ .closing := by decide +kernel

theorem witness_StartOpensThePress :
    let s := prepared (.press 500 1000)
    admitted (cellH 0) .start s = true ∧ s.job = some (job1 (.press 500 1000) false) ∧ tabGet s.cat.types 1 = some type1
    ∧ s.motion.stroke = .idle ∧ s.openSet = [] ∧ s.head.status = .ready ∧ s.head.tare = none
    ∧ s.head.orientation = some .normal ∧ s.head.kind = some 1 ∧ s.head.width = some .four
    ∧ tabGet s.qual.table (qualKey 1 1) = some qual1 ∧ (job1 (.press 500 1000) false).queue = stepOf (.press 500 1000) false :: []
    ∧ (∀ p ∈ (List.range' 1 type1.cols).map (fun c => 1 + c - 1), s.head.ready p = true)
    ∧ (∀ r ∈ s.store.records, r.state ≠ .held) ∧ s.store.records.length < 32
    ∧ (job1 (.press 500 1000) false).mode ≠ .preloaded := by decide

theorem witness_StopActsByJobState :
    let moving := running (.move 1000 10) false
    admitted (cellH 0) .stop base = true ∧ base.motion.stroke ≠ .homing ∧ base.job = none
    ∧ admitted (lineH 0) .stop (prepared (.dwell 5)) = true ∧ (prepared (.dwell 5)).job = some (job1 (.dwell 5) false)
    ∧ admitted (cellH 0) .stop ended = true ∧ ended.motion.stroke ≠ .homing ∧ (ended.run.map (·.ended)) = some true
    ∧ admitted (cellH 0) .stop moving = true ∧ moving.motion.stroke ≠ .homing ∧ (moving.run.map (·.ended)) = some false
    ∧ moving.inHand.isSome = true := by decide

theorem witness_NormalEndsGoOn :
    let m := running (.move 1000 10) false
    let r := running (.retract 1000 10) false
    let d := running (.dwell 0) true
    (m.inHand.map (·.record.body)) = some (.move 1000 10) ∧ ((1003 : Int) - m.motion.zero - 1000).natAbs ≤ 3
    ∧ (m.inHand.map (·.endsNow)) = some false
    ∧ (r.inHand.map (·.record.body)) = some (.retract 1000 10) ∧ (r.inHand.map (·.endsNow)) = some true
    ∧ (d.inHand.map (·.record.body)) = some (.dwell 0) ∧ (d.inHand.map (·.endsNow)) = some true
    ∧ (d.inHand.map (·.record.last)) = some true ∧ (m.inHand.map (·.record.last)) = some false := by decide

/-- A paused program before whose PRESS step a lane has 8 bad frames. -/
def pausedLane8 : State := { paused with head := { head1 with bad := [8, 0, 0, 0] } }

theorem witness_PausedProgramsEnd :
    let away := paused.onMotion (fun m => { m with enc := 1 })
    let moving := paused.onMotion (fun m => { m with recent := [3] })
    paused.job.isSome = true ∧ (paused.run.map (·.ended)) = some false ∧ paused.inHand = none ∧ paused.motion.stroke = .paused
    ∧ (paused.run.map (·.underrun)) = some true ∧ admitted (cellH 0) .stop paused = true ∧ paused.guards.states.length = 8
    ∧ paused.openSet = [] ∧ paused.guards.kind 1 = .door ∧ paused.guards.kind 8 = .door ∧ paused.head.status = .ready
    ∧ paused.monitor.phase = .watching ∧ (∃ n ∈ pausedLane8.head.bad, 8 ≤ n) ∧ pausedLane8.head.status = .ready
    ∧ paused.motion.ramp = .zero ∧ (∀ p ∈ paused.motion.recent, (paused.motion.enc - p).natAbs ≤ 2)
    ∧ paused.motion.position = 0 ∧ away.motion.position ≠ 0 ∧ away.motion.ramp = .zero
    ∧ ¬ (∀ p ∈ moving.motion.recent, (moving.motion.enc - p).natAbs ≤ 2)
    ∧ (ramp (.falling 2000 100) paused).motion.ramp ≠ .zero ∧ (ramp (.falling 2000 100) paused).enable = true := by decide

/-- A press just begun, its first step still in the queue. -/
def begun : State := openPress (job1 (.press 500 60000) false) type1 qual1 base

theorem witness_HandOverSetsTheStep :
    begun.job.isSome = true ∧ begun.run.isSome = true
    ∧ (begun.job.map (·.queue)) = some (stepOf (.press 500 60000) false :: []) ∧ begun.head.width = some .four
    ∧ (Width.four, 500) ∈ [(Width.four, 500), (.two, 250), (.one, 125)]
    ∧ ((1000 : Int) - (1000 : Int)).natAbs ≤ 3 ∧ ¬ ((1000 : Nat) : Int) ≤ 996 + 3 ∧ ((1000 : Nat) : Int) ≤ 997 + 3
    ∧ EndCause.touchWindow ∈ [EndCause.stopped, .underrun, .forceCap, .earlySeat, .overtravel, .noTouch, .touchWindow, .sensingLost]
    ∧ EndCause.travelLimit ∈ [EndCause.guard, .stall, .travelLimit] := by decide

theorem moving_motion : MotionSound (running (.move 1000 10) false) :=
  ⟨by decide, by decide, by decide, by decide,
    fun r h he => by
      have : (running (.move 1000 10) false).run.map (·.ended) = some false := by decide
      rw [h] at this; simp [he] at this, by decide,
    fun v hv => by
      have : (running (.move 1000 10) false).motion.ramp = .following 0 := by decide
      rw [this] at hv; cases hv; decide,
    fun rate v hv => by
      have : (running (.move 1000 10) false).motion.ramp = .following 0 := by decide
      rw [this] at hv; cases hv⟩

theorem moving_job : JobSound (running (.move 1000 10) false) := by
  have hj : (running (.move 1000 10) false).job = some { job1 (.move 1000 10) false with
      queue := []
      run := some { newRun 1 [1] with
        handed := 1, inHand := some (takeInHand (some .four) 0 0 (stepOf (.move 1000 10) false)) } } := by decide
  have hr : (running (.move 1000 10) false).run = some { newRun 1 [1] with
        handed := 1, inHand := some (takeInHand (some .four) 0 0 (stepOf (.move 1000 10) false)) } := by decide
  constructor
  · intro j h; cases hj.symm.trans h; decide
  · intro j h h'; cases hj.symm.trans h; cases h'
  · intro j r h h' _; cases hj.symm.trans h; cases h'; decide
  · intro j r h h' he; cases hj.symm.trans h; cases h'; cases he
  · intro j h _; cases hj.symm.trans h; decide
  · intro r h h' hh; cases hr.symm.trans h'; cases hh; decide
  · intro r h _; cases hr.symm.trans h; decide
  · intro h; exact absurd h (by decide)
  · intro r h hu; cases hr.symm.trans h; cases hu

theorem moving_monitor : MonitorSound (running (.move 1000 10) false) := by
  have hr : (running (.move 1000 10) false).run = some { newRun 1 [1] with
        handed := 1, inHand := some (takeInHand (some .four) 0 0 (stepOf (.move 1000 10) false)) } := by decide
  constructor
  · decide
  · decide
  · intro _; exact ⟨rfl, fun r h => by cases hr.symm.trans h; rfl⟩
  · constructor
    · decide
    · rintro ⟨h, hh, hp⟩
      have : (running (.move 1000 10) false).inHand.map (fun h => bodyKind h.record.body) = some .move := by decide
      rw [hh] at this; simp [hp] at this
  · decide
  · intro r h he; cases hr.symm.trans h; cases he
  · decide
  · intro r h; cases hr.symm.trans h; decide
  · decide
  · intro r h; cases hr.symm.trans h; decide

theorem witness_JobAndMonitorStaySound :
    let s := running (.move 1000 10) false
    MotionSound s ∧ JobSound s ∧ MonitorSound s ∧ step s = .next s := ⟨moving_motion, moving_job, moving_monitor, rfl⟩

theorem witness_RestReportJudgesThePress :
    let reported := stroke .retracting (ended.onRun (fun r => { r with restMade := true }))
    (ended.run.map (·.ended)) = some true ∧ ended.profile.complete = true ∧ ended.motion.stroke = .idle
    ∧ (stroke .faulted ended).motion.stroke = .faulted ∧ (reported.run.map (·.restMade)) = some true
    ∧ ended.store.records = [] ++ rec1 :: [] ∧ rec1.state = .opened := by decide

/-- The part with its eight inputs of kind ESTOP. -/
def estops (s : State) : State := { s with guards := { s.guards with kinds := List.replicate 8 .estop } }

theorem witness_HomingRunsItsCourse :
    let homing := fun p => (stroke .homing base).onMotion (fun m => { m with phase := p, commanded := -50 })
    let ready := { homing .seeking with job := (prepared (.dwell 5)).job }
    admitted (cellH 0) .home base = true ∧ admitted (cellH 0) .home (stroke .homing base) = true
    ∧ admitted (cellH 0) .home (ramp (.following 2) base) = true ∧ admitted (cellH 0) .home ended = true ∧ ended.run ≠ none
    ∧ admitted (cellH 0) .home taring = true ∧ taring.head.tare ≠ none
    ∧ admitted (cellH 0) .home (base.onMotion (fun m => { m with faultInput := true })) = true
    ∧ admitted (cellH 0) .home { base with guards := Guards.reset } = true
    ∧ base.motion.stroke = .idle ∧ base.motion.ramp.output = 0 ∧ base.run = none ∧ base.head.tare = none
    ∧ base.motion.driveReady = true ∧ base.motion.faultInput = false ∧ base.openSet = []
    ∧ (homing .seeking).motion.stroke = .homing ∧ (homing .seeking).motion.phase = .seeking
    ∧ (homing .settling).motion.phase = .settling ∧ (homing .settling).run = none
    ∧ (homing (.taring 5 96 64)).motion.phase = .taring 5 96 64 ∧ (homing (.taring 5 96 63)).motion.phase = .taring 5 96 63
    ∧ (homing .seeking).job = none ∧ admitted (cellH 0) .stop (homing .seeking) = true
    ∧ ready.job.isSome = true ∧ ready.run = none ∧ ready.motion.stroke = .homing ∧ admitted (cellH 0) .stop ready = true
    ∧ (estops (homing .seeking)).guards.kind 8 = .estop ∧ (estops (homing .seeking)).openSet = []
    ∧ (homing .seeking).motion.commanded ≠ 0 ∧ (homing .seeking).guards.states.length = 8 ∧ (homing .seeking).openSet = []
    ∧ (homing .seeking).guards.kind 1 = .door ∧ (homing .seeking).guards.kind 8 = .door := by decide

theorem witness_RetractBringsTheRamHome :
    let away := base.onMotion (fun m => { m with enc := 1 })
    admitted (cellH 0) .retract (stroke .unhomed base) = true ∧ admitted (cellH 0) .retract (stroke .faulted base) = true
    ∧ admitted (cellH 0) .retract (stroke .running base) = true ∧ admitted (cellH 0) .retract (ramp (.following 2) base) = true
    ∧ admitted (cellH 0) .retract { base with guards := Guards.reset } = true
    ∧ ({ base with guards := Guards.reset } : State).openSet ≠ [] ∧ base.openSet = []
    ∧ admitted (cellH 0) .retract base = true ∧ base.motion.enc = base.motion.zero
    ∧ admitted (cellH 0) .retract away = true ∧ away.motion.enc ≠ away.motion.zero
    ∧ (stroke .retracting base).motion.stroke = .retracting ∧ (stroke .retracting base).inHand = none
    ∧ 3 < ((4 : Int) - base.motion.zero).natAbs ∧ ((3 : Int) - base.motion.zero).natAbs ≤ 3
    ∧ ((stroke .retracting base).onMotion (fun m => { m with commanded := -200 })).motion.commanded ≠ 0
    ∧ (stroke .retracting base).motion.commanded = 0
    ∧ admitted (cellH 0) .clearFault (stroke .faulted base) = true ∧ (stroke .faulted base).motion.driveReady = true
    ∧ (stroke .faulted base).motion.faultInput = false ∧ admitted (cellH 0) .clearFault base = true
    ∧ base.motion.stroke ≠ .faulted ∧ (lineH 0).link = .line ∧ base.line.replies.length < 8 := by decide



def stopping (f : FollowOn) : State :=
  (stroke .stopping base).onMotion (fun m => { m with
    stop := some { cause := .cause .stopped, rate := 2000, dropped := false, follow := f } })

theorem witness_RestTakesTheFollowOn :
    (stopping .unhomed).motion.stroke = .stopping ∧ (stopping .unhomed).inHand = none
    ∧ ((stopping .unhomed).motion.stop.map (·.follow)) = some .unhomed
    ∧ ((stopping .idle).motion.stop.map (·.follow)) = some .idle
    ∧ ((stopping .retract).motion.stop.map (·.follow)) = some .retract ∧ (stopping .retract).openSet = []
    ∧ (1 : Int) ≠ (stopping .retract).motion.zero ∧ (0 : Int) = (stopping .retract).motion.zero
    ∧ ({ stopping .retract with guards := Guards.reset } : State).openSet ≠ []
    ∧ (ramp (.falling 2000 100) base).motion.ramp = .falling 2000 100 ∧ (ramp (.falling 2000 100) base).motion.stroke = .idle
    ∧ (ramp (.falling 2000 100) paused).motion.stroke = .paused
    ∧ (ramp (.falling 2000 100) (running (.move 1000 10) false)).motion.stroke = .running := by decide

theorem witness_AbortsEndTheProgram :
    let p := running (.probe 1000 10 0 1000) false
    let near := running (.probe 3 10 0 1000) false
    let bad : State := { p with head := { head1 with bad := [0, 0, 0, 8] } }
    (p.inHand.map (·.record.body)) = some (.probe 1000 10 0 1000) ∧ p.motion.stroke = .running ∧ p.motion.commanded ≠ 0
    ∧ 199500 ≤ (199500 : Int) - p.motion.zero ∧ (199499 : Int) - p.motion.zero < 199500
    ∧ ((997 : Int) - p.motion.zero - 1000).natAbs ≤ 3 ∧ (near.inHand.map (·.endsNow)) = some true
    ∧ near.motion.stroke = .running ∧ p.guards.states.length = 8 ∧ p.openSet = [] ∧ p.guards.kind 1 = .door
    ∧ p.guards.kind 8 = .door ∧ (estops p).guards.kind 8 = .estop ∧ (estops p).openSet = [] ∧ p.head.status = .ready
    ∧ p.monitor.phase = .watching ∧ (pressing 2 7).monitor.phase = .pressing ∧ (pressing 2 7).motion.stroke = .running
    ∧ (∃ n ∈ bad.head.bad, 8 ≤ n) ∧ bad.monitor.phase = .watching := by decide

theorem witness_DriveFaultsAreTaken :
    base.inHand = none ∧ base.motion.stroke ≠ .paused ∧ base.motion.stroke ≠ .faulted ∧ base.motion.driveReady = true
    ∧ (stopping .idle).inHand = none ∧ (stopping .idle).motion.stroke = .stopping
    ∧ (stroke .faulted base).inHand = none ∧ (stroke .faulted base).motion.stroke = .faulted
    ∧ (stroke .homing base).motion.stroke = .homing ∧ paused.inHand = none ∧ paused.motion.stroke = .paused
    ∧ (pressing 2 7).inHand.isSome = true ∧ (pressing 2 7).motion.driveReady = true ∧ (pressing 2 7).motion.stroke ≠ .faulted
    ∧ (base.onMotion (fun m => { m with driveReady := false })).motion.driveReady = false := by decide

/-- A part in IDLE whose last stop ramp falls still. -/
def slowing : State := ramp (.falling 20000 100) base

theorem slowing_motion : MotionSound slowing :=
  ⟨by decide, by decide, by decide, by decide, (fun _ h => nomatch h), by decide, (fun _ h => nomatch h),
    fun _ _ h => by cases h; decide⟩

theorem witness_MotionOnlyWhenPermitted : MotionSound (running (.move 1000 10) false)
    ∧ (running (.move 1000 10) false).motion.commanded ≠ 0 ∧ step base = .next base ∧ MotionSound slowing
    ∧ slowing.motion.commanded = 0 ∧ slowing.motion.ramp.output ≠ 0 :=
  ⟨moving_motion, by decide, rfl, slowing_motion, by decide, by decide⟩

theorem witness_RamSamplesAreTaken :
    let p := running (.probe 1000 10 0 500) false
    let d := { pressing 2 7 with monitor := (running (.dwell 5) false).monitor }
    (stroke .retracting base).motion.stroke = .retracting ∧ p.motion.stroke = .running ∧ p.inHand.isSome = true
    ∧ base.motion.stroke ≠ .retracting ∧ base.motion.stroke ≠ .running
    ∧ base.run = none ∧ (prepared (.dwell 5)).run = none ∧ (running (.dwell 5) false).run ≠ none
    ∧ ((running (.dwell 5) false).inHand.map (fun h => bodyKind h.record.body)) = some .dwell
    ∧ (running (.dwell 5) false).monitor.phase ≠ .pressing ∧ d.run ≠ none ∧ d.monitor.phase ≠ .pressing ∧ d.profile.binning = true
    ∧ (p.inHand.map (fun h => bodyKind h.record.body)) = some .probe ∧ p.profile.binning = false
    ∧ (p.store.records.find? (fun q => decide (q.state = .opened))).map (·.copy.entry.touch) = some 20
    ∧ ramForce p.motion.ramOffset 19 < 20 := by decide

theorem witness_TouchEndsTheProbe :
    let s := running (.probe 1000 10 0 500) false
    (s.inHand.map (·.record.body)) = some (.probe 1000 10 0 500)
    ∧ (s.store.records.find? (fun q => decide (q.state = .opened))).isSome = true
    ∧ (s.store.records.find? (fun q => decide (q.state = .opened))).map (·.copy.entry.touch) = some 20
    ∧ s.profile.channels = List.replicate (1 + 1) [] ∧ s.profile.leading = none ∧ s.profile.deepest = none
    ∧ s.profile.binning = false ∧ s.job.isSome = true ∧ s.run.isSome = true ∧ s.motion.zero = 0 ∧ 20 ≤ ramForce s.motion.ramOffset 20
    ∧ ((0 : Nat) : Int) ≤ 500 - s.motion.zero ∧ (500 : Int) - s.motion.zero ≤ (500 : Nat) ∧ ((500 : Nat) : Int) < 501 - s.motion.zero
    ∧ (-1 : Int) - s.motion.zero < (0 : Nat) := by decide

/-- A profile whose touch position is 100, its leading bin 2 and one bin binned. -/
def profile1 : Profile :=
  { Profile.reset with touch := some 100, leading := some 2, deepest := some 2
                       channels := [[(2, { value := 7, empty := false, filled := false, suspect := false })], []] }

theorem witness_SamplesAreBinned :
    profile1.touch = some 100 ∧ 1 < profile1.channels.length ∧ 0 ≤ (100 : Int) - 100 ∧ (4099 : Int) - 100 ≤ 3999
    ∧ (99 : Int) - 100 < 0 ∧ 4000 ≤ (4100 : Int) - 100 ∧ profile1.leading = some 2 ∧ 2 < 799 ∧ 799 < 800 ∧ 2 ≤ 2
    ∧ 5 * ((799 : Nat) : Int) ≤ 4095 - 100 ∧ (4099 : Int) - 100 ≤ 5 * (799 : Nat) + 4 ∧ 0 < 800 ∧ 5 * ((0 : Nat) : Int) ≤ 100 - 100
    ∧ ({ profile1 with leading := none } : Profile).leading = none ∧ profile1.channels ≠ [] ∧ profile1.channel 0 = [(2, { value := 7, empty := false, filled := false, suspect := false })] := by
  decide

/-- Below the leading bin nothing has been binned. -/
theorem profile1_below (i : Nat) (h : 2 < i) : binRead (profile1.channel 0) i = emptyBin := by
  have hc : profile1.channel 0 = [(2, { value := 7, empty := false, filled := false, suspect := false })] := rfl
  have : i ≠ 2 := by omega
  simp [hc, binRead, tabGet, this]

theorem witness_EndTreatmentFillsTheChannel :
    let c := profile1.channel 0
    let p := (pressing 2 7).profile
    (binRead c 2).empty = false ∧ (binRead c 0).empty = true ∧ (binRead c 4).empty = true
    ∧ (∀ i ∈ [0, 1], (binRead c i).empty = true) ∧ (∀ i ∈ [3, 4, 5], (binRead c i).empty = true)
    ∧ (binRead c (1 + 1)).empty = false ∧ (binRead c (3 - 1)).empty = false ∧ 5 = 5
    ∧ Profile.reset.deepest = none ∧ p.deepest = some 2 ∧ p.channels[0]? = some c ∧ p.channels[0 + 1]? = some []
    ∧ p.bases = some [{ value := 3, suspect := false }] ∧ 0 < [({ value := 3, suspect := false } : FingerSample)].length := by decide

theorem witness_RamTestsEndThePress :
    let lim := loadLimits 1 rec1.copy
    let rise := fun (b v : Nat) => ((pressing b v).profile.binRam (5 * (b + 1) : Nat) 60 false)
    let passes := fun b v : Nat => (rise b v).2 = [] ++ { bin := b, value := v, suspect := false } :: [] ∧ 10 ≤ b
      ∧ lim.searchStart ≤ 5 * (b - 10) ∧ (binRead ((rise b v).1.channel 0) (b - 10)).value + lim.kneeRise ≤ v
    let s := pressing 105 50
    s.job.isSome = true ∧ s.run.isSome = true ∧ (s.inHand.map (fun h => bodyKind h.record.body)) = some .press
    ∧ s.monitor.phase = .pressing ∧ s.monitor.ramCap = some 1000 ∧ s.monitor.limits = some lim ∧ s.profile.touch = some 0
    ∧ 1000 < ramForce s.motion.ramOffset 1001 ∧ ramForce s.motion.ramOffset 1000 ≤ 1000
    ∧ passes 105 50 ∧ 5 * (105 - 10) < lim.bandLow
    ∧ passes 106 50 ∧ lim.bandLow ≤ 5 * (106 - 10) ∧ passes 114 50 ∧ 5 * (114 - 10) ≤ lim.bandHigh
    ∧ passes 115 50 ∧ lim.bandHigh < 5 * (115 - 10) ∧ lim.bandLow ≤ 5 * (115 - 10)
    ∧ (rise 106 49).2 = [{ bin := 106, value := 49, suspect := false }]
    ∧ ¬ (binRead ((rise 106 49).1.channel 0) (106 - 10)).value + lim.kneeRise ≤ 49
    ∧ (lim.overtravel : Int) ≤ 570 - 0 ∧ (569 : Int) - 0 < lim.overtravel := by decide +kernel

theorem witness_ProfileStaysCanonical : ProfileSound { base with profile := profile1 } ∧ step base = .next base :=
  ⟨⟨by decide, fun d h => by cases h; decide, fun d h => by cases h; decide⟩, rfl⟩

/-- A press record with one outcome of its PRESS step, and a profile that ends in bin 12 with the knee at bin 11. -/
def pressRec (c : EndCause) : Record :=
  { rec1 with outcomes := [{ index := 0, kind := .press, cause := c, start := 0, stop := 0, travelled := 0, peak := 0
                             speedUsed := none, clamped := none }] }
def pressed (v hold : Bin) : Profile :=
  { Profile.reset with
    pressEnd := some 12, bases := some [{ value := 0, suspect := false }]
    channels := [[], (List.range' 0 10).map (fun b => (b, v)) ++ [(10, hold)]] }
def bin (v : Nat) (m : Bool) : Bin := { value := v, empty := false, filled := false, suspect := m }

def col1 : ColumnResult :=
  { column := 1, position := 1, judged := true, base := none, ranks := [], hold := none, holdVerdict := none }
def bare1 : RankResult :=
  { rank := 1, pins := 1, carry := none, peak := none, step := none, share := none, verdict := .unjudged }

/-- The columns of a SEATED press: with a complete window, with one that is not, and where the column is ABSENT. -/
theorem witness_PinVerdictsFollowTheOrders_columns :
    let early : Profile := { pressed (bin 20 false) (bin 5 false) with pressEnd := some 9 }
    let absent : Record := { pressRec .seated with columns := [{ col1 with judged := false }] }
    (pressRec .seated).columns = [col1] ∧ (columnPins rec1.copy.entry 1).filter (fun q => q.rank = pin1.rank) = [pin1]
    ∧ columnPins rec1.copy.entry 2 = [] ∧ onsetOf rec1.copy.entry 1 / 5 = 0 ∧ cls1.engage / 5 = 10
    ∧ (judge (pressed (bin 15 false) (bin 31 false)) (some 11) (pressRec .seated)).columns = [{ col1 with
        ranks := [{ bare1 with carry := some 0, peak := some 15, step := some 15, share := some 15, verdict := .pass }]
        hold := some 31, holdVerdict := some .holdHigh }]
    ∧ (judge early (some 11) (pressRec .seated)).columns
        = [{ col1 with ranks := [bare1], hold := some 5, holdVerdict := some .pass }]
    ∧ (judge (pressed (bin 15 false) (bin 5 false)) (some 11) absent).columns
        = [{ col1 with judged := false, ranks := [bare1], holdVerdict := some .unjudged }]
    ∧ (judge early (some 11) (pressRec .seated)).pins.map (·.verdict) = [.unjudged] := by decide

theorem witness_PinVerdictsFollowTheOrders :
    let verdict := fun (p : Profile) (r : Record) => (judge p (some 11) r).pins.map (·.verdict)
    col1 ∈ (pressRec .seated).columns ∧ ((pressRec .seated).columns.map (·.column)).Nodup
    ∧ (1, pin1) ∈ columnRows rec1.copy.entry 1 ∧ pin1.rank ≤ rec1.copy.entry.ranks
    ∧ tabGet rec1.copy.classes (rankClass rec1.copy.entry 1 1) = some cls1
    ∧ standing (pressRec .seated).outcomes = .seated ∧ standing (pressRec .stopped).outcomes = .pressed
    ∧ verdict (pressed (bin 15 true) (bin 5 false)) (pressRec .seated) = [.suspect]
    ∧ verdict (pressed (bin 21 false) (bin 5 false)) (pressRec .seated) = [.highEntry]
    ∧ verdict (pressed (bin 9 false) (bin 5 false)) (pressRec .seated) = [.lowEntry]
    ∧ verdict (pressed (bin 20 false) (bin 5 false)) (pressRec .stopped) = [.unjudged]
    ∧ verdict (pressed (bin 20 false) (bin 5 true)) (pressRec .seated) = [.suspect]
    ∧ verdict (pressed (bin 10 false) (bin 31 false)) (pressRec .seated) = [.holdHigh]
    ∧ verdict (pressed (bin 20 false) (bin 4 false)) (pressRec .seated) = [.holdLow]
    ∧ verdict (pressed (bin 20 false) (bin 5 false)) (pressRec .seated) = [.pass]
    ∧ verdict (pressed (bin 20 false) (bin 5 false)) rec1 = [.unjudged] := by decide

theorem witness_PressVerdictFollowsTheOrders :
    let verdict := fun (p : Profile) (r : Record) => (judge p (some 11) r).verdict
    let good := pressed (bin 20 false) (bin 5 false)
    verdict good (pressRec .forceCap) = some .reject ∧ verdict (pressed (bin 21 false) (bin 5 false)) (pressRec .seated) = some .reject
    ∧ verdict good rec1 = some .incomplete ∧ verdict (pressed (bin 20 true) (bin 5 false)) (pressRec .seated) = some .review
    ∧ verdict good (pressRec .seated) = some .accept ∧ (pressRec .seated).columns.map (·.column) = List.range' 1 1 := by decide

theorem witness_StoreStaysSound : StoreSound (stored .held) ∧ StoreSound (running (.dwell 5) false) ∧ step base = .next base :=
  ⟨⟨by decide, by decide, by decide, by decide, by decide, by decide, by decide, by decide, by decide⟩,
   ⟨by decide, by decide, by decide, by decide, by decide, by decide, by decide, by decide, by decide⟩, rfl⟩

theorem witness_StoreAndProfileReadsAnswer :
    let s := stored .held
    let p := { base with profile := { Profile.start base.profile 1 1 1 [1] with complete := true } }
    admitted (cellH 3) (.resultSummary 0 0) s = true ∧ admitted (lineH 3) (.resultSummary 1 15) s = true
    ∧ admitted (cellH 3) (.resultSummary 1 16) s = true ∧ admitted (cellH 3) (.resultSummary 65535 15) s = true
    ∧ (s.store.records.find? (fun r => r.press = 1)).isSome = true ∧ s.store.records.find? (fun r => r.press = 65535) = none
    ∧ admitted (cellH 3) (.resultColumn 0 1) s = true ∧ admitted (cellH 3) (.resultColumn 65535 1) s = true
    ∧ admitted (cellH 3) (.resultColumn 1 0) s = true ∧ admitted (cellH 3) (.resultColumn 1 2) s = true
    ∧ admitted (cellH 3) (.resultColumn 1 1) s = true ∧ (rec1.columns.find? (fun c => c.column = 1)).isSome = true
    ∧ admitted (cellH 3) (.resultPins 0 1) s = true ∧ admitted (cellH 3) (.resultPins 65535 1) s = true
    ∧ admitted (cellH 3) (.resultPins 1 2) s = true ∧ admitted (cellH 3) (.resultPins 1 1) s = true
    ∧ admitted (cellH 4) (.profileRead 0 0 1) ended = true ∧ ended.run ≠ none
    ∧ admitted (cellH 4) (.profileRead 0 0 1) base = true ∧ base.run = none ∧ base.profile.complete = false
    ∧ admitted (cellH 4) (.profileRead 0 701 100) p = true ∧ ¬ 701 + 100 ≤ 800
    ∧ admitted (cellH 4) (.profileRead 1 700 100) p = true ∧ p.profile.complete = true ∧ 1 ≤ p.profile.cols.getD 0 := by decide

theorem witness_ReleaseRemovesTheRecord :
    let ok := fun (n : Nat) (s : State) => admitted (cellH 2) (.resultRelease n) s = true
    ok 0 base ∧ ok 65535 base ∧ base.store.records.find? (fun r => r.press = 65535) = none
    ∧ ok 65536 base ∧ ok 1 (running (.dwell 5) false) ∧ ok 1 (stored .held) ∧ ok 1 (stored .disposed)
    ∧ ((stored .disposed).store.records.find? (fun r => r.press = 1)).map (·.state) = some .disposed
    ∧ ((running (.dwell 5) false).store.records.find? (fun r => r.press = 1)).map (·.state) = some .opened
    ∧ ((stored .disposed).store.records.map (·.press)).Nodup ∧ base.line.replies.length < 8 := by decide

/-- A qualification table at its capacity, with no entry for type 1 on head kind 1. -/
def qualFull : State := { base with qual := { base.qual with table := (List.range' 33 128).map (fun k => (k, qual1)) } }

theorem witness_QualifyEditsTheTable :
    let ok := fun (t k l n : Nat) (s : State) => admitted (cellH 5) (.qualify t k l n) s = true
    ok 0 1 0 1 base ∧ ok 10000 1 0 1 base ∧ ok 1 0 0 1 base ∧ ok 1 16 0 1 base ∧ ok 1 1 4 1 base ∧ ok 1 1 0 0 base
    ∧ ok 1 1 0 100 base ∧ ok 9999 15 2 99 base ∧ tabGet base.cat.types 9999 = none
    ∧ ok 1 15 3 0 base ∧ tabGet base.cat.types 1 ≠ none ∧ tabGet base.qual.table (16 * 1 + 15) = none
    ∧ ok 1 1 3 0 base ∧ tabGet base.qual.table (16 * 1 + 1) ≠ none
    ∧ ok 1 1 2 99 qualFull ∧ tabGet qualFull.qual.table (16 * 1 + 1) = none ∧ 128 ≤ qualFull.qual.table.length
    ∧ ok 1 1 0 1 base ∧ ok 1 1 1 99 base ∧ ok 1 15 2 1 base ∧ base.qual.table.length < 128
    ∧ admitted (cellH 3) (.qualifyGet 0 0) base = true ∧ admitted (cellH 3) (.qualifyGet 1 16) base = true
    ∧ admitted (cellH 3) (.qualifyGet 1 15) base = true ∧ admitted (cellH 3) (.qualifyGet 1 1) base = true
    ∧ tabGet base.qual.table (16 * 1 + 1) = some qual1 := by decide +kernel

theorem witness_HoldEndsWithADisposition :
    let ok := fun (p c o : Nat) (s : State) => admitted (cellH 5) (.dispose p c o) s = true
    let s := stored .held
    let late := { s with qual := { s.qual with overdue := true } }
    ok 0 0 0 s ∧ ok 65536 0 0 s ∧ ok 1 3 0 s ∧ ok 1 0 10000 s ∧ ok 65535 2 9999 s
    ∧ s.store.records.find? (fun r => r.press = 65535) = none ∧ ok 1 2 9999 (stored .complete) ∧ ok 1 0 9999 s
    ∧ ((stored .complete).store.records.find? (fun r => r.press = 1)).map (·.state) = some .complete
    ∧ (s.store.records.find? (fun r => r.press = 1)).map (fun r => (r.state, r.verdict)) = some (.held, some .review)
    ∧ s.qual.timer = .running ∧ s.qual.held = some 1 ∧ s.qual.startedWith = some 120 ∧ s.qual.overdue = false
    ∧ late.qual.overdue = true ∧ late.qual.timer = .running ∧ base.qual.timer ≠ .running
    ∧ admitted (cellH 2) (.holdTime 0) base = true ∧ admitted (cellH 2) (.holdTime 10) base = true
    ∧ admitted (lineH 2) (.holdTime 600) base = true ∧ admitted (cellH 2) (.holdTime 1) base = true
    ∧ admitted (cellH 2) (.holdTime 9) base = true ∧ admitted (cellH 2) (.holdTime 601) base = true := by decide

theorem witness_GuardChangesTheOpenSet :
    let opened := after (.guardInputChange 8 true 0) base
    let estop := { base with guards := { shut with kinds := List.replicate 8 .estop } }
    let none' := { base with guards := { shut with kinds := List.replicate 8 .absent } }
    base.guards.states.length = 8 ∧ base.motion.stroke = .idle ∧ base.openSet = [] ∧ base.guards.kind 1 ≠ .absent
    ∧ base.guards.kind 8 ≠ .absent ∧ opened.openSet = [8] ∧ opened.guards.states.length = 8 ∧ opened.openSet ≠ [1]
    ∧ none'.guards.kind 8 = .absent ∧ none'.motion.stroke = .idle
    ∧ (stroke .retracting base).motion.stroke = .retracting ∧ (stroke .retracting base).openSet = []
    ∧ estop.guards.kind 8 = .estop ∧ State.reset.openSet ≠ [1] ∧ State.reset.guards.states.length = 8 := by decide

theorem witness_GuardConfigSetsTheKinds :
    let ok := fun (c : List Nat) (s : State) => admitted (cellH 8) (.guardConfig c) s = true
    let keep := List.replicate 8 4
    let none' := List.replicate 8 0
    let held := { base with guards := { Guards.reset with kinds := List.replicate 8 .absent, firstOpened := none } }
    ok [4, 4, 4, 4, 4, 4, 4, 5] base ∧ ok keep base ∧ ok none' (stroke .running base) ∧ ok none' ended ∧ ended.run ≠ none
    ∧ ok [1, 4, 4, 4, 4, 4, 4, 3] held ∧ held.openSet = [] ∧ held.motion.stroke = .idle ∧ held.run = none
    ∧ (({ held.guards with kinds := [.door, .absent, .absent, .absent, .absent, .absent, .absent, .estop] } : Guards).openSet)
        = 1 :: [8]
    ∧ ok none' State.reset ∧ State.reset.openSet = [1, 2, 3, 4, 5, 6, 7] ++ [8]
    ∧ (({ Guards.reset with kinds := List.replicate 8 .absent } : Guards).openSet) = []
    ∧ ok none' base ∧ base.openSet = [] ∧ (({ shut with kinds := List.replicate 8 .absent } : Guards).openSet) = [] := by decide

end Sys2Proof.Tests
end

section
/-! PROOFS. What the invariant of the tables reads of a state, and that the events of the equipment leave it alone. -/

namespace Sys2Proof.Machine

/-- What `TablesSound` reads of a state: the catalogue, the qualification table and the type of the job. -/
def tablesOf (s : State) : Catalogue × List (Nat × QualEntry) × Option Nat := (s.cat, s.qual.table, s.jobType)

/-- The invariant of the tables depends on the tables alone. -/
theorem tablesSound_congr {s t : State} (h : tablesOf t = tablesOf s) (hs : TablesSound s) : TablesSound t := by
  simp only [tablesOf, Prod.mk.injEq] at h
  obtain ⟨hcat, hqual, hjob⟩ := h
  refine ⟨hcat ▸ hs.classes, hcat ▸ hs.types, hqual ▸ hs.quals, hqual ▸ hcat ▸ hs.entries, fun j hj => ?_⟩
  have hid : s.jobType = some j.typeId := by rw [← hjob, State.jobType, hj]; rfl
  obtain ⟨i, hi, hij⟩ := Option.map_eq_some_iff.1 hid
  rw [hcat, ← hij]
  exact hs.job i hi

/-- Without a job the lock on its type asks nothing. -/
theorem tablesSound_without_job {s t : State} (hcat : t.cat = s.cat) (hqual : t.qual.table = s.qual.table)
    (hjob : t.job = none) (hs : TablesSound s) : TablesSound t :=
  ⟨hcat ▸ hs.classes, hcat ▸ hs.types, hqual ▸ hs.quals, hqual ▸ hcat ▸ hs.entries, fun j hj => by simp [hjob] at hj⟩

/-! ## The shared updates of the state -/

@[simp] theorem tablesOf_onLink (s : State) (l : Link) (f : LinkState → LinkState) :
    tablesOf (s.onLink l f) = tablesOf s := by cases l <;> rfl
@[simp] theorem tablesOf_setRx (s : State) (l : Link) (rx : Receiver) : tablesOf (s.setRx l rx) = tablesOf s :=
  tablesOf_onLink ..
@[simp] theorem tablesOf_heard (h : Header) (s : State) : tablesOf (heard h s) = tablesOf s := tablesOf_setRx ..
@[simp] theorem tablesOf_reply (s : State) (l : Link) (tag : Nat) (st : Status) (b : List Wire) :
    tablesOf (s.reply l tag st b) = tablesOf s := tablesOf_onLink ..
@[simp] theorem tablesOf_refuse (s : State) (l : Link) (tag : Nat) (st : Status) :
    tablesOf (s.refuse l tag st) = tablesOf s := tablesOf_reply ..
@[simp] theorem tablesOf_raise (s : State) (n : Notice) : tablesOf (s.raise n) = tablesOf s := rfl
@[simp] theorem tablesOf_arbiters (s : State) : tablesOf s.arbiters = tablesOf s := rfl
@[simp] theorem tablesOf_onRun (s : State) (f : Run → Run) : tablesOf (s.onRun f) = tablesOf s := by
  simp only [tablesOf, State.jobType, State.onRun, Option.map_map, Function.comp_def]
@[simp] theorem tablesOf_onHand (s : State) (f : InHand → InHand) : tablesOf (s.onHand f) = tablesOf s :=
  tablesOf_onRun ..
@[simp] theorem tablesOf_onRecord (s : State) (f : Record → Record) : tablesOf (s.onRecord f) = tablesOf s := rfl
@[simp] theorem tablesOf_onMotion (s : State) (f : Motion → Motion) : tablesOf (s.onMotion f) = tablesOf s := rfl
@[simp] theorem tablesOf_latch (s : State) (enc : Int) : tablesOf (s.latch enc) = tablesOf s := tablesOf_onHand ..
@[simp] theorem tablesOf_rest (s : State) (enc : Int) : tablesOf (s.rest enc) = tablesOf s := by simp [State.rest]

/-! ## Programs, stops and drive faults -/

@[simp] theorem tablesOf_handOver (s : State) : tablesOf (handOver s) = tablesOf s := by
  unfold handOver
  split
  · rfl
  · next j hj =>
    split
    · simp [tablesOf, State.jobType, hj]
    · rfl

@[simp] theorem tablesOf_endProgram (c : EndCause) (s : State) : tablesOf (endProgram c s) = tablesOf s := by
  simp only [tablesOf, State.jobType, endProgram, Option.map_map, Function.comp_def]

@[simp] theorem tablesOf_markRest (s : State) : tablesOf (markRest s) = tablesOf s := tablesOf_onRun ..

@[simp] theorem tablesOf_beginStop (c : StopCause) (rate : Nat) (drop : Bool) (f : FollowOn) (s : State) :
    tablesOf (beginStop c rate drop f s) = tablesOf s := rfl

@[simp] theorem tablesOf_takeFollowOn (s : State) : tablesOf (takeFollowOn s) = tablesOf s := by
  unfold takeFollowOn
  split
  · rfl
  · split
    · rfl
    · exact tablesOf_markRest _
    · split
      · rfl
      · exact tablesOf_markRest _

@[simp] theorem tablesOf_continueProgram (last : Bool) (s : State) : tablesOf (continueProgram last s) = tablesOf s := by
  unfold continueProgram
  split
  · rfl
  · next j _ =>
    split
    · exact (tablesOf_markRest _).trans (tablesOf_endProgram (if j.pressAccepted then .completed else .noPress) s)
    · split
      · exact (tablesOf_raise _ _).trans (tablesOf_onRun _ _)
      · exact tablesOf_handOver s

@[simp] theorem tablesOf_pressEnded (s : State) : tablesOf (pressEnded s) = tablesOf s := rfl

@[simp] theorem tablesOf_closeStep (r : Run) (h : InHand) (c : EndCause) (stop : Int) (s : State) :
    tablesOf (closeStep r h c stop s) = tablesOf s := by
  simp only [closeStep]
  split <;> simp

@[simp] theorem tablesOf_endStep (c : EndCause) (stop : Int) (drop : Bool) (s : State) :
    tablesOf (endStep c stop drop s) = tablesOf s := by
  simp only [endStep]
  split
  · next r h _ _ =>
    have hclose := tablesOf_closeStep r h c stop s
    split
    · exact (tablesOf_continueProgram _ _).trans hclose
    · split
      · exact ((tablesOf_markRest _).trans (tablesOf_endProgram _ _)).trans hclose
      · exact ((tablesOf_beginStop _ _ _ _ _).trans (tablesOf_endProgram _ _)).trans hclose
  · rfl

@[simp] theorem tablesOf_endPaused (c : EndCause) (drop : Bool) (s : State) : tablesOf (endPaused c drop s) = tablesOf s := by
  simp only [endPaused]
  split
  · simp
  · split <;> simp

@[simp] theorem tablesOf_interrupt (c : EndCause) (drop : Bool) (s : State) : tablesOf (interrupt c drop s) = tablesOf s := by
  unfold interrupt
  split
  · simp
  · split <;> simp

@[simp] theorem tablesOf_endHoming (r : HomingResult) (drop : Bool) (s : State) :
    tablesOf (endHoming r drop s) = tablesOf s := rfl

@[simp] theorem tablesOf_driveFault (src : FaultSource) (s : State) : tablesOf (driveFault src s) = tablesOf s := by
  simp only [driveFault, apply_ite tablesOf, tablesOf_endStep, tablesOf_endPaused, tablesOf_markRest, ite_self]
  split <;> rfl

@[simp] theorem tablesOf_guardEntry (k : GuardKind) (s : State) : tablesOf (guardEntry k s) = tablesOf s := by
  simp only [guardEntry]
  split
  case h_6 => split <;> rfl
  all_goals simp

@[simp] theorem tablesOf_sensingLost (s : State) : tablesOf (sensingLost s) = tablesOf s := by
  unfold sensingLost
  split <;> simp

@[simp] theorem tablesOf_leaveReady (s : State) : tablesOf (leaveReady s) = tablesOf s := by simp [leaveReady]

/-! ## The head -/

@[simp] theorem tablesOf_abortTare (s : State) : tablesOf (abortTare s) = tablesOf s := by
  unfold abortTare
  split
  · rfl
  · exact tablesOf_refuse _ _ _ _

@[simp] theorem tablesOf_beginTraining (a : Nat) (s : State) : tablesOf (beginTraining a s) = tablesOf s := by
  simp only [beginTraining]
  split
  · exact (tablesOf_leaveReady _).trans (tablesOf_abortTare s)
  · exact tablesOf_abortTare s

@[simp] theorem tablesOf_detach (s : State) : tablesOf (detach s) = tablesOf s := by
  simp only [detach]
  split
  · exact (tablesOf_leaveReady _).trans (tablesOf_abortTare s)
  · exact tablesOf_abortTare s

@[simp] theorem tablesOf_enterNoLink (s : State) : tablesOf (enterNoLink s) = tablesOf s := rfl

@[simp] theorem tablesOf_trainingSuccess (s : State) : tablesOf (trainingSuccess s) = tablesOf s := by
  simp only [trainingSuccess]
  split <;> rfl

@[simp] theorem tablesOf_trainingTimeout (passed : List Nat) (s : State) :
    tablesOf (trainingTimeout passed s) = tablesOf s := by
  simp only [trainingTimeout]
  split <;> rfl

@[simp] theorem tablesOf_descriptorAnswered (kind : Nat) (o : Orientation) (s : State) :
    tablesOf (descriptorAnswered kind o s) = tablesOf s := by
  unfold descriptorAnswered
  split <;> rfl

@[simp] theorem tablesOf_closeRollCall (s : State) : tablesOf (closeRollCall s) = tablesOf s := rfl

@[simp] theorem tablesOf_completeTare (t : Tare) (s : State) : tablesOf (completeTare t s) = tablesOf s :=
  tablesOf_reply _ _ _ _ _

/-! ## Samples -/

@[simp] theorem tablesOf_raisePeaks (value : Nat) (s : State) : tablesOf (raisePeaks value s) = tablesOf s := by
  unfold raisePeaks
  split
  · exact tablesOf_onHand s _
  · rfl

@[simp] theorem tablesOf_takeTouch (a b : Nat) (position : Int) (value : Nat) (suspect : Bool) (s : State) :
    tablesOf (takeTouch a b position value suspect s) = tablesOf s := by
  simp only [takeTouch]
  split <;> exact tablesOf_endStep _ _ _ _

@[simp] theorem tablesOf_takeKnee (lim : Limits) (k : Nat) (position : Int) (s : State) :
    tablesOf (takeKnee lim k position s) = tablesOf s := by
  simp only [takeKnee]
  refine (tablesOf_endStep _ _ _ _).trans ?_
  split <;> rfl

@[simp] theorem tablesOf_ramTests (position : Int) (value : Nat) (completed : List Completion) (s : State) :
    tablesOf (ramTests position value completed s) = tablesOf s := by
  unfold ramTests
  split
  · split
    · simp
    · split
      · simp
      · split <;> simp
  · rfl

@[simp] theorem tablesOf_useRamSample (position : Int) (value : Nat) (suspect : Bool) (s : State) :
    tablesOf (useRamSample position value suspect s) = tablesOf s := by
  simp only [useRamSample]
  split
  · split <;> simp
  · split
    · exact tablesOf_ramTests _ _ _ _
    · rfl

@[simp] theorem tablesOf_takeRamSample (raw enc : Int) (s : State) : tablesOf (takeRamSample raw enc s) = tablesOf s := by
  have hlatch : tablesOf ((tick s).latch enc) = tablesOf s := tablesOf_latch _ _
  simp only [takeRamSample]
  split
  · exact ((tablesOf_useRamSample _ _ _ _).trans (tablesOf_raisePeaks _ _)).trans hlatch
  · exact hlatch

@[simp] theorem tablesOf_useFinger (r : Run) (finger : List (Nat × FingerSample)) (s : State) :
    tablesOf (useFinger r finger s) = tablesOf s := by
  have hbin : tablesOf (if r.fingersGone then s
      else { s with profile := binFingers r.map s.motion.position finger s.profile }) = tablesOf s := by
    split <;> rfl
  simp only [useFinger]
  split
  · split
    · exact (tablesOf_endStep _ _ _ _).trans hbin
    · exact hbin
  · exact hbin

@[simp] theorem tablesOf_positionFailed (p : Nat) (s : State) : tablesOf (positionFailed p s) = tablesOf s := by
  unfold positionFailed
  split <;> simp

@[simp] theorem tablesOf_takeAlert (s : State) (a : Alert) : tablesOf (takeAlert s a) = tablesOf s := by
  simp only [takeAlert]
  split
  · rfl
  · split
    · exact tablesOf_positionFailed _ _
    · rfl

theorem tablesOf_takeAlerts (alerts : List Alert) (s : State) : tablesOf (alerts.foldl takeAlert s) = tablesOf s := by
  induction alerts generalizing s with
  | nil => rfl
  | cons a alerts ih => exact (ih _).trans (tablesOf_takeAlert s a)

@[simp] theorem tablesOf_takeFrameInstant (enc : Int) (frames : List LaneFrame) (s : State) :
    tablesOf (takeFrameInstant enc frames s) = tablesOf s := by
  simp only [takeFrameInstant]
  refine (tablesOf_takeAlerts _ _).trans ?_
  split
  · exact (tablesOf_useFinger _ _ _).trans (tablesOf_latch s enc)
  · exact tablesOf_latch s enc

/-! ## The ends of steps that the motion block sees, the guards, the hold -/

@[simp] theorem tablesOf_takeMoveReached (s : State) : tablesOf (takeMoveReached s) = tablesOf s := by
  unfold takeMoveReached
  split
  · split <;> simp
  · rfl

@[simp] theorem tablesOf_takeProbeArrival (s : State) : tablesOf (takeProbeArrival s) = tablesOf s := by
  unfold takeProbeArrival
  split
  · split <;> simp
  · rfl

@[simp] theorem tablesOf_takeStall (s : State) : tablesOf (takeStall s) = tablesOf s := by
  unfold takeStall
  split
  · rfl
  · split <;> simp

@[simp] theorem tablesOf_takeTravelLimit (s : State) : tablesOf (takeTravelLimit s) = tablesOf s := by
  unfold takeTravelLimit
  split <;> simp

@[simp] theorem tablesOf_takeRetractReached (s : State) : tablesOf (takeRetractReached s) = tablesOf s := by
  unfold takeRetractReached
  split <;> simp

@[simp] theorem tablesOf_guardOpened (i : Nat) (s : State) : tablesOf (guardOpened i s) = tablesOf s := rfl
@[simp] theorem tablesOf_guardClosed (i : Nat) (k : GuardKind) (s : State) : tablesOf (guardClosed i k s) = tablesOf s := rfl

@[simp] theorem tablesOf_takeGuardChange (i : Nat) (d : Debounced) (s : State) :
    tablesOf (takeGuardChange i d s) = tablesOf s := by
  simp only [takeGuardChange]
  split
  · split
    · exact (tablesOf_guardOpened _ _).trans (tablesOf_guardEntry _ _)
    · exact tablesOf_guardEntry _ _
  · split <;> rfl

@[simp] theorem tablesOf_takeGuardConfig (entries : List (Option GuardKind)) (s : State) :
    tablesOf (takeGuardConfig entries s) = tablesOf s := by
  simp only [takeGuardConfig]
  split
  · split <;> rfl
  · split
    · split <;> rfl
    · rfl

@[simp] theorem tablesOf_expireHold (r : Record) (s : State) : tablesOf (expireHold r s) = tablesOf s := by
  simp only [expireHold]
  split <;> rfl

@[simp] theorem tablesOf_announce (r : Record) (s : State) : tablesOf (announce r s) = tablesOf s := by
  simp only [announce]
  split <;> rfl

end Sys2Proof.Machine
end

section
/-! PROOFS. Every step keeps the tables in order, within their capacities and consistent with one another (R1, R17, R152). -/

namespace Sys2Proof.Machine

/-! ## Requests that read, or act on other blocks -/

theorem tablesOf_serveMask (l : Link) (tag operation kinds : Nat) (s : State) :
    tablesOf (serveMask l tag operation kinds s) = tablesOf s := by
  unfold serveMask
  split
  · simp
  · split <;> simp
  · simp

theorem tablesOf_serveClassGet (l : Link) (tag n : Nat) (s : State) : tablesOf (serveClassGet l tag n s) = tablesOf s := by
  unfold serveClassGet
  split
  · simp
  · split
    · simp
    · split <;> simp

theorem tablesOf_serveCatalogueGet (l : Link) (tag n : Nat) (s : State) :
    tablesOf (serveCatalogueGet l tag n s) = tablesOf s := by
  unfold serveCatalogueGet
  split
  · simp
  · split
    · simp
    · split <;> simp

theorem tablesOf_serveTare (l : Link) (tag : Nat) (s : State) : tablesOf (serveTare l tag s) = tablesOf s := by
  unfold serveTare
  split
  · simp
  · split
    · simp
    · split
      · rfl
      · simp

theorem tablesOf_serveRetrain (l : Link) (tag : Nat) (s : State) : tablesOf (serveRetrain l tag s) = tablesOf s := by
  unfold serveRetrain
  split
  · simp
  · split
    · simp
    · exact (tablesOf_reply _ _ _ _ _).trans (tablesOf_beginTraining _ _)

theorem tablesOf_acceptStep {j : Job} {s : State} (rec : StepRecord) (next : Grammar) (hj : s.job = some j) :
    tablesOf (acceptStep j rec next s) = tablesOf s := by
  have hjob : tablesOf { s with job := some (j.accept rec next) } = tablesOf s := by
    simp [tablesOf, State.jobType, hj, Job.accept]
  simp only [acceptStep]
  split
  · exact ((tablesOf_handOver _).trans (tablesOf_onRun _ _)).trans hjob
  · exact hjob

/-- R46: the job that may take a step is the job. -/
theorem job_of_openJob {s : State} {j : Job} (h : s.openJob = some j) : s.job = some j := by
  unfold State.openJob at h
  split at h
  · cases h
  · next i hi =>
    split at h
    · rw [hi, h]
    · split at h
      · cases h
      · rw [hi, h]

theorem tablesOf_serveStep (l : Link) (tag : Nat) (offer : StepOffer) (last : Nat) (s : State) :
    tablesOf (serveStep l tag offer last s) = tablesOf s := by
  simp only [serveStep]
  split
  · simp
  · next j hj =>
    split
    · simp
    · split
      · simp
      · split
        · simp
        · split
          · simp
          · exact (tablesOf_reply _ _ _ _ _).trans (tablesOf_acceptStep _ _ (job_of_openJob hj))

theorem tablesOf_serveStepFlush (l : Link) (tag : Nat) (s : State) : tablesOf (serveStepFlush l tag s) = tablesOf s := by
  unfold serveStepFlush
  split
  · simp
  · next j hj =>
    split
    · simp
    · simp [tablesOf, State.jobType, hj]

theorem tablesOf_serveHome (closed : Bool) (l : Link) (tag : Nat) (s : State) :
    tablesOf (serveHome closed l tag s) = tablesOf s := by
  unfold serveHome
  split <;> simp

theorem tablesOf_serveRetract (l : Link) (tag : Nat) (s : State) : tablesOf (serveRetract l tag s) = tablesOf s := by
  unfold serveRetract
  split
  · simp
  · split <;> simp

theorem tablesOf_serveClearFault (l : Link) (tag : Nat) (s : State) : tablesOf (serveClearFault l tag s) = tablesOf s := by
  unfold serveClearFault
  split <;> simp

theorem tablesOf_serveProfileRead (l : Link) (tag ch first count : Nat) (s : State) :
    tablesOf (serveProfileRead l tag ch first count s) = tablesOf s := by
  unfold serveProfileRead
  split
  · simp
  · split
    · simp
    · split <;> simp

theorem tablesOf_serveResultSummary (l : Link) (tag press first : Nat) (s : State) :
    tablesOf (serveResultSummary l tag press first s) = tablesOf s := by
  unfold serveResultSummary
  split
  · simp
  · split
    · simp
    · split <;> simp

theorem tablesOf_serveResultColumn (l : Link) (tag press column : Nat) (s : State) :
    tablesOf (serveResultColumn l tag press column s) = tablesOf s := by
  unfold serveResultColumn
  split
  · simp
  · split <;> simp

theorem tablesOf_serveResultPins (l : Link) (tag press column : Nat) (s : State) :
    tablesOf (serveResultPins l tag press column s) = tablesOf s := by
  unfold serveResultPins
  split <;> simp

theorem tablesOf_serveResultRelease (l : Link) (tag press : Nat) (s : State) :
    tablesOf (serveResultRelease l tag press s) = tablesOf s := by
  unfold serveResultRelease
  split
  · simp
  · split
    · simp
    · split
      · simp
      · split
        · simp
        · exact tablesOf_reply _ _ _ _ _

theorem tablesOf_serveQualifyGet (l : Link) (tag typeId headKind : Nat) (s : State) :
    tablesOf (serveQualifyGet l tag typeId headKind s) = tablesOf s := by
  unfold serveQualifyGet
  split
  · simp
  · split
    · simp
    · split <;> simp

theorem tablesOf_serveDispose (l : Link) (tag press outcome operator : Nat) (s : State) :
    tablesOf (serveDispose l tag press outcome operator s) = tablesOf s := by
  unfold serveDispose
  split
  · simp
  · split
    · simp
    · split
      · simp
      · split
        · simp
        · exact tablesOf_reply _ _ _ _ _

theorem tablesOf_serveHoldTime (l : Link) (tag seconds : Nat) (s : State) :
    tablesOf (serveHoldTime l tag seconds s) = tablesOf s := by
  unfold serveHoldTime
  split
  · simp
  · split
    · exact tablesOf_reply _ _ _ _ _
    · simp

theorem tablesOf_serveGuardConfig (l : Link) (tag : Nat) (codes : List Nat) (s : State) :
    tablesOf (serveGuardConfig l tag codes s) = tablesOf s := by
  simp only [serveGuardConfig]
  split
  · simp
  · split
    · simp
    · split <;> simp

/-! ## Requests that edit the tables or make and end a job -/

/-- A range check passed, in words. -/
theorem between_iff (lo hi n : Nat) : between lo hi n = true ↔ lo ≤ n ∧ n ≤ hi := by simp [between]

/-- R4: the entry that CLASS PUT stores has a class number. -/
theorem class_number_of_classCheck {n : Nat} {e : ClassEntry} (h : classCheck n e = 0) : 1 ≤ n ∧ n ≤ 16 := by
  unfold classCheck at h
  split at h
  · cases h
  · next hn => simpa [between_iff, Config.classPlaces] using hn

/-- R12: the type that CATALOGUE PUT stores has a type id. -/
theorem type_id_of_typeCheck {classes : List (Nat × ClassEntry)} {id : Nat} {e : TypeEntry}
    (h : typeCheck classes id e = none) : 1 ≤ id ∧ id ≤ 9999 := by
  unfold typeCheck at h
  split at h
  · cases h
  · next hn => simpa [between_iff] using hn

/-- A key that reads as present reads so after a put. -/
theorem isSome_tabGet_tabPut {α : Type} {t : List (Nat × α)} {j : Nat} (k : Nat) (v : α) (h : (tabGet t j).isSome) :
    (tabGet (tabPut t k v) j).isSome := by
  by_cases hjk : j = k
  · simp [hjk, tabGet_tabPut_self]
  · rwa [tabGet_tabPut_other _ _ _ hjk]

theorem serveClassPut_keeps_tables {s : State} (l : Link) (tag n : Nat) (e : ClassEntry) (hs : TablesSound s) :
    TablesSound (serveClassPut l tag n e s) := by
  simp only [serveClassPut]
  split
  · exact tablesSound_congr (by simp) hs
  · next hcheck =>
    split
    · exact tablesSound_congr (by simp) hs
    · split
      · exact tablesSound_congr (by simp) hs
      · refine tablesSound_congr (tablesOf_reply _ _ _ _ _) ⟨⟨tabSorted_tabPut n e hs.classes.1, fun c hc => ?_⟩, hs.types,
          hs.quals, hs.entries, hs.job⟩
        rcases mem_tabPut hc with rfl | hc
        · exact class_number_of_classCheck (not_not.1 hcheck)
        · exact hs.classes.2 c hc

theorem serveClassDrop_keeps_tables {s : State} (l : Link) (tag n : Nat) (hs : TablesSound s) :
    TablesSound (serveClassDrop l tag n s) := by
  unfold serveClassDrop
  split
  · exact tablesSound_congr (by simp) hs
  · split
    · exact tablesSound_congr (by simp) hs
    · split
      · exact tablesSound_congr (by simp) hs
      · exact tablesSound_congr (tablesOf_reply _ _ _ _ _) ⟨⟨tabSorted_tabDrop n hs.classes.1,
          fun c hc => hs.classes.2 c (List.mem_filter.1 hc).1⟩, hs.types, hs.quals, hs.entries, hs.job⟩

theorem serveCataloguePut_keeps_tables {s : State} (l : Link) (tag id : Nat) (e : TypeEntry) (hs : TablesSound s) :
    TablesSound (serveCataloguePut l tag id e s) := by
  obtain ⟨hsorted, hlength, hkeys⟩ := hs.types
  unfold serveCataloguePut
  split
  · exact tablesSound_congr (by simp) hs
  · next hcheck =>
    split
    · exact tablesSound_congr (by simp) hs
    · split
      · exact tablesSound_congr (by simp) hs
      · next hroom =>
        refine tablesSound_congr (tablesOf_reply _ _ _ _ _) ⟨hs.classes, ⟨tabSorted_tabPut id e hsorted, ?_, fun c hc => ?_⟩,
          hs.quals, fun q hq => ?_, fun j hj => isSome_tabGet_tabPut id e (hs.job j hj)⟩
        · simp only [length_tabPut hsorted]
          split
          · next habsent => simp only [habsent, true_and, Config.typeCapacity] at hroom; omega
          · omega
        · rcases mem_tabPut hc with rfl | hc
          · exact type_id_of_typeCheck hcheck
          · exact hkeys c hc
        · obtain ⟨hkind, htype, hentry⟩ := hs.entries q hq
          exact ⟨hkind, isSome_tabGet_tabPut id e htype, hentry⟩

theorem serveCatalogueDrop_keeps_tables {s : State} (l : Link) (tag id : Nat) (hs : TablesSound s) :
    TablesSound (serveCatalogueDrop l tag id s) := by
  obtain ⟨hsorted, hlength, hkeys⟩ := hs.types
  unfold serveCatalogueDrop
  split
  · exact tablesSound_congr (by simp) hs
  · split
    · exact tablesSound_congr (by simp) hs
    · split
      · exact tablesSound_congr (by simp) hs
      · next hfree =>
        refine tablesSound_congr (tablesOf_reply _ _ _ _ _) ⟨hs.classes, ⟨tabSorted_tabDrop id hsorted,
          (List.length_filter_le _ _).trans hlength, fun c hc => hkeys c (List.mem_filter.1 hc).1⟩,
          ⟨?_, (List.length_filter_le _ _).trans hs.quals.2⟩, fun q hq => ?_, fun j hj => ?_⟩
        · exact (tabSorted_iff _).2 (((tabSorted_iff _).1 hs.quals.1).filter _)
        · obtain ⟨hq, hother⟩ := List.mem_filter.1 hq
          obtain ⟨hkind, htype, hentry⟩ := hs.entries q hq
          exact ⟨hkind, by rwa [tabGet_tabDrop_other _ _ (of_decide_eq_true hother)], hentry⟩
        · have hother : j.typeId ≠ id := fun h => hfree (by simp [State.jobType, show s.job = some j from hj, h])
          rw [tabGet_tabDrop_other _ _ hother]
          exact hs.job j hj

theorem serveJob_keeps_tables {s : State} (l : Link) (tag typeId first : Nat) (serial : List Nat) (mode : Nat)
    (hs : TablesSound s) : TablesSound (serveJob l tag typeId first serial mode s) := by
  unfold serveJob
  split
  · exact tablesSound_congr (by simp) hs
  · exact tablesSound_congr (by simp) hs
  · split
    · exact tablesSound_congr (by simp) hs
    · split
      · exact tablesSound_congr (by simp) hs
      · next e hstored =>
        split
        · exact tablesSound_congr (by simp) hs
        · refine tablesSound_congr (tablesOf_reply _ _ _ _ _) ⟨hs.classes, hs.types, hs.quals, hs.entries, fun j hj => ?_⟩
          cases hj
          exact Option.isSome_of_mem hstored

/-- R155: the entry as START leaves it still counts below its interval. -/
theorem audit_in_range {q : QualEntry} (h : 1 ≤ q.interval ∧ q.interval ≤ 99 ∧ q.count < q.interval) :
    1 ≤ (audit q).1.interval ∧ (audit q).1.interval ≤ 99 ∧ (audit q).1.count < (audit q).1.interval := by
  unfold audit
  split
  · split
    · simp only; omega
    · simp only; omega
  · exact h

/-- R155: START leaves the tables sound, whatever else it opens. -/
theorem openPress_keeps_tables {s : State} {j : Job} {e : TypeEntry} {q : QualEntry} (hj : s.job = some j)
    (hq : s.qualEntry j = some q) (hs : TablesSound s) : TablesSound (openPress j e q s) := by
  have hmem : (qualKey j.typeId (s.head.kind.getD 0), q) ∈ s.qual.table := mem_of_tabGet hq
  obtain ⟨hkind, htype, hrange⟩ := hs.entries _ hmem
  refine ⟨hs.classes, hs.types, ⟨tabSorted_tabPut _ _ hs.quals.1, ?_⟩, fun c hc => ?_, fun i hi => ?_⟩
  · have hpresent : tabGet s.qual.table (qualKey j.typeId (s.head.kind.getD 0)) = some q := hq
    simpa [openPress, length_tabPut hs.quals.1, hpresent] using hs.quals.2
  · rcases mem_tabPut hc with rfl | hc
    · exact ⟨hkind, htype, audit_in_range hrange⟩
    · exact hs.entries c hc
  · cases hi
    exact hs.job j hj

theorem serveStart_keeps_tables {s : State} (l : Link) (tag : Nat) (hs : TablesSound s) :
    TablesSound (serveStart l tag s) := by
  unfold serveStart
  split
  · exact tablesSound_congr (by simp) hs
  · next j hj =>
    split
    · exact tablesSound_congr (by simp) hs
    · split
      · exact tablesSound_congr (by simp) hs
      · split
        · exact tablesSound_congr (by simp) hs
        · exact tablesSound_congr (by simp) hs
        · next e _ _ _ q _ hq =>
          exact tablesSound_congr ((tablesOf_reply _ _ _ _ _).trans (tablesOf_handOver _))
            (openPress_keeps_tables (e := e) hj hq hs)

/-- R62: STOP drops a PREPARED job, and leaves the tables and the type of a RUNNING one. -/
theorem stopJob_keeps_tables {s : State} (hs : TablesSound s) : TablesSound (stopJob s) := by
  unfold stopJob
  split
  · exact hs
  · split
    · exact tablesSound_without_job (s := s) rfl rfl rfl hs
    · split
      · exact hs
      · exact tablesSound_congr (by simp) hs

theorem serveStop_keeps_tables {s : State} (l : Link) (tag : Nat) (hs : TablesSound s) : TablesSound (serveStop l tag s) := by
  refine tablesSound_congr (tablesOf_reply _ _ _ _ _) ?_
  simp only [takeStop]
  split
  · exact tablesSound_congr (tablesOf_endHoming _ _ _) (stopJob_keeps_tables hs)
  · exact stopJob_keeps_tables hs

/-- R152: a key is made of its type id and head kind. -/
theorem qualKey_parts {typeId headKind : Nat} (h : headKind ≤ 15) :
    qualKey typeId headKind / 16 = typeId ∧ qualKey typeId headKind % 16 = headKind := by
  unfold qualKey; omega

/-- R153: an entry made or replaced keeps the tables sound. -/
theorem putQual_keeps_tables {s : State} {typeId headKind : Nat} {q : QualEntry} (hs : TablesSound s)
    (hkind : 1 ≤ headKind ∧ headKind ≤ 15) (htype : (tabGet s.cat.types typeId).isSome)
    (hq : 1 ≤ q.interval ∧ q.interval ≤ 99 ∧ q.count < q.interval)
    (hroom : tabGet s.qual.table (qualKey typeId headKind) = none → s.qual.table.length < 128) :
    TablesSound (s.onQuals (fun t => tabPut t (qualKey typeId headKind) q)) := by
  obtain ⟨hdiv, hmod⟩ := qualKey_parts (typeId := typeId) hkind.2
  refine ⟨hs.classes, hs.types, ⟨tabSorted_tabPut _ _ hs.quals.1, ?_⟩, fun c hc => ?_, hs.job⟩
  · simp only [State.onQuals, length_tabPut hs.quals.1]
    have hcap := hs.quals.2
    split
    · next habsent => have := hroom (Option.isNone_iff_eq_none.1 habsent); omega
    · omega
  · rcases mem_tabPut hc with rfl | hc
    · refine ⟨by simpa only [hmod] using hkind.1, ?_, hq⟩
      change (tabGet s.cat.types (qualKey typeId headKind / 16)).isSome
      rwa [hdiv]
    · exact hs.entries c hc

/-- R153: an entry removed keeps the tables sound. -/
theorem dropQual_keeps_tables {s : State} (key : Nat) (hs : TablesSound s) :
    TablesSound (s.onQuals (fun t => tabDrop t key)) :=
  ⟨hs.classes, hs.types, ⟨tabSorted_tabDrop key hs.quals.1, (List.length_filter_le _ _).trans hs.quals.2⟩,
    fun c hc => hs.entries c (List.mem_filter.1 hc).1, hs.job⟩

theorem qualifyAs_keeps_tables {s : State} {typeId headKind interval : Nat} {level : Option Level} (l : Link) (tag : Nat)
    (hs : TablesSound s) (hkind : 1 ≤ headKind ∧ headKind ≤ 15) (htype : (tabGet s.cat.types typeId).isSome)
    (hinterval : level = none ∨ 1 ≤ interval ∧ interval ≤ 99) :
    TablesSound (qualifyAs l tag (qualKey typeId headKind) interval level s) := by
  unfold qualifyAs
  split
  · exact tablesSound_congr (tablesOf_reply _ _ _ _ _) (dropQual_keeps_tables _ hs)
  · exact tablesSound_congr (tablesOf_reply _ _ _ _ _) hs
  · next hpresent =>
    have hrange := hinterval.resolve_left (by simp)
    exact tablesSound_congr (tablesOf_reply _ _ _ _ _)
      (putQual_keeps_tables hs hkind htype ⟨hrange.1, hrange.2, hrange.1⟩ (by simp [hpresent]))
  · have hrange := hinterval.resolve_left (by simp)
    split
    · next hroom =>
      exact tablesSound_congr (tablesOf_reply _ _ _ _ _)
        (putQual_keeps_tables hs hkind htype ⟨hrange.1, hrange.2, hrange.1⟩ (fun _ => hroom))
    · exact tablesSound_congr (tablesOf_refuse _ _ _ _) hs

theorem serveQualify_keeps_tables {s : State} (l : Link) (tag typeId headKind level interval : Nat) (hs : TablesSound s) :
    TablesSound (serveQualify l tag typeId headKind level interval s) := by
  unfold serveQualify
  split
  · exact tablesSound_congr (by simp) hs
  · split
    · exact tablesSound_congr (by simp) hs
    · next hfields =>
      split
      · exact tablesSound_congr (by simp) hs
      · next hstored =>
        simp only [Bool.not_eq_true, Bool.not_eq_false', Bool.and_eq_true, Bool.or_eq_true, between_iff,
          Option.isNone_iff_eq_none] at hfields
        obtain ⟨⟨_, hkind⟩, hinterval⟩ := hfields
        exact qualifyAs_keeps_tables l tag hs hkind (Option.isSome_iff_ne_none.2 (by simpa using hstored)) hinterval

/-- R2, R182: empty tables with no job are sound. -/
theorem tablesSound_of_empty {s : State} (hcat : s.cat = { classes := [], types := [] }) (hqual : s.qual.table = [])
    (hjob : s.job = none) : TablesSound s :=
  ⟨by simp [hcat, tabSorted], by simp [hcat, tabSorted], by simp [hqual, tabSorted], by simp [hqual],
    fun j hj => by simp [hjob] at hj⟩

theorem serveRestart_keeps_tables {s : State} (l : Link) (tag : Nat) (hs : TablesSound s) :
    TablesSound (serveRestart l tag s) := by
  unfold serveRestart
  split
  · exact tablesSound_congr (by simp) hs
  · exact tablesSound_of_empty rfl rfl rfl

/-- Every request keeps the tables sound. -/
theorem serve_keeps_tables (closed : Bool) (r : Request) (l : Link) (tag : Nat) {s : State} (hs : TablesSound s) :
    TablesSound (serve closed r l tag s) := by
  cases r with
  | restart => exact serveRestart_keeps_tables l tag hs
  | classPut n e => exact serveClassPut_keeps_tables l tag n e hs
  | classDrop n => exact serveClassDrop_keeps_tables l tag n hs
  | cataloguePut t e => exact serveCataloguePut_keeps_tables l tag t e hs
  | catalogueDrop t => exact serveCatalogueDrop_keeps_tables l tag t hs
  | job t f n m => exact serveJob_keeps_tables l tag t f n m hs
  | start => exact serveStart_keeps_tables l tag hs
  | stop => exact serveStop_keeps_tables l tag hs
  | qualify t k v n => exact serveQualify_keeps_tables l tag t k v n hs
  | ident => exact tablesSound_congr (tablesOf_reply ..) hs
  | state => exact tablesSound_congr (tablesOf_reply ..) hs
  | mask op k => exact tablesSound_congr (tablesOf_serveMask ..) hs
  | classGet n => exact tablesSound_congr (tablesOf_serveClassGet ..) hs
  | catalogueGet t => exact tablesSound_congr (tablesOf_serveCatalogueGet ..) hs
  | tare => exact tablesSound_congr (tablesOf_serveTare ..) hs
  | retrain => exact tablesSound_congr (tablesOf_serveRetrain ..) hs
  | headMap => exact tablesSound_congr (tablesOf_reply ..) hs
  | step o last => exact tablesSound_congr (tablesOf_serveStep ..) hs
  | stepFlush => exact tablesSound_congr (tablesOf_serveStepFlush ..) hs
  | home => exact tablesSound_congr (tablesOf_serveHome ..) hs
  | retract => exact tablesSound_congr (tablesOf_serveRetract ..) hs
  | clearFault => exact tablesSound_congr (tablesOf_serveClearFault ..) hs
  | profileRead c f n => exact tablesSound_congr (tablesOf_serveProfileRead ..) hs
  | resultSummary p i => exact tablesSound_congr (tablesOf_serveResultSummary ..) hs
  | resultColumn p c => exact tablesSound_congr (tablesOf_serveResultColumn ..) hs
  | resultPins p c => exact tablesSound_congr (tablesOf_serveResultPins ..) hs
  | resultRelease p => exact tablesSound_congr (tablesOf_serveResultRelease ..) hs
  | qualifyGet t k => exact tablesSound_congr (tablesOf_serveQualifyGet ..) hs
  | dispose p o c => exact tablesSound_congr (tablesOf_serveDispose ..) hs
  | holdTime t => exact tablesSound_congr (tablesOf_serveHoldTime ..) hs
  | guardConfig es => exact tablesSound_congr (tablesOf_serveGuardConfig ..) hs

/-! ## Frames, received whole or byte by byte -/

theorem takeRequest_keeps_tables {s : State} (l : Link) (tag code : Nat) (body : Option Request) (closed : Bool)
    (hs : TablesSound s) : TablesSound (takeRequest l tag code body s closed) := by
  have hrx : TablesSound (s.setRx l .hunting) := tablesSound_congr (tablesOf_setRx _ _ _) hs
  simp only [takeRequest]
  split
  · exact hrx
  · split
    · exact tablesSound_congr (tablesOf_refuse _ _ _ _) hrx
    · split
      · exact tablesSound_congr (tablesOf_refuse _ _ _ _) hrx
      · split
        · exact tablesSound_congr (tablesOf_refuse _ _ _ _) hrx
        · exact serve_keeps_tables closed _ l tag hrx

theorem receiveByte_keeps_tables {s : State} (l : Link) (b : Byte) (closed : Bool) (hs : TablesSound s) :
    TablesSound (receiveByte l b closed s) := by
  have hrx : ∀ rx, TablesSound (s.setRx l rx) := fun rx => tablesSound_congr (tablesOf_setRx s l rx) hs
  simp only [receiveByte]
  split
  · split
    · exact hrx _
    · exact hs
  · split
    · exact hrx _
    · split
      · exact hrx _
      · simp only [takeFrame]
        split
        · split
          · exact takeRequest_keeps_tables l _ _ _ closed hs
          · exact hrx _
        · exact hrx _

/-! ## The rest report -/

/-- R65: the rest report ends the job and leaves the tables. -/
theorem takeRestReport_keeps_tables {s : State} (hs : TablesSound s) : TablesSound (takeRestReport s) := by
  have hdrop : TablesSound (dropJob s) := tablesSound_without_job (s := s) rfl rfl rfl hs
  unfold takeRestReport
  split
  · exact tablesSound_congr (tablesOf_announce _ _) hdrop
  · exact hdrop

/-! ## The step -/

/-- A command's next state is sound in its tables. -/
def LeavesTables (o : Host.Outcome State Fault Refusal) : Prop := ∃ u, o = done u ∧ TablesSound u

theorem leavesTables_done {u : State} (h : TablesSound u) : LeavesTables (done u) := ⟨u, rfl, h⟩

/-- An event that leaves what the invariant reads. -/
theorem leavesTables_of_same {s u : State} (hs : TablesSound s) (h : tablesOf u = tablesOf s) : LeavesTables (done u) :=
  leavesTables_done (tablesSound_congr h hs)

/-- An event that is taken under a condition. -/
theorem leavesTables_ite {s u v : State} {c : Prop} [Decidable c] (hs : TablesSound s) (hu : tablesOf u = tablesOf s)
    (hv : tablesOf v = tablesOf s) : LeavesTables (if c then done u else done v) := by
  split
  · exact leavesTables_of_same hs hu
  · exact leavesTables_of_same hs hv

theorem execHandoverEnd_leaves_tables {s : State} (enc : Int) (hs : TablesSound s) :
    LeavesTables (execHandoverEnd s enc) := by
  simp only [execHandoverEnd]
  split
  · exact leavesTables_ite hs (by simp) (by simp)
  · exact leavesTables_of_same hs (by simp)

theorem execHomingComplete_leaves_tables {s : State} (hs : TablesSound s) : LeavesTables (execHomingComplete s) := by
  unfold execHomingComplete
  split
  · exact leavesTables_ite hs (by simp) rfl
  · exact leavesTables_done hs

theorem execTareComplete_leaves_tables {s : State} (hs : TablesSound s) : LeavesTables (execTareComplete s) := by
  unfold execTareComplete
  split
  · exact leavesTables_ite hs (by simp) rfl
  · exact leavesTables_done hs

theorem execHoldOverdue_leaves_tables {s : State} (hs : TablesSound s) : LeavesTables (execHoldOverdue s) := by
  unfold execHoldOverdue
  split
  · exact leavesTables_of_same hs (by simp)
  · exact leavesTables_done hs

theorem execRestReport_leaves_tables {s : State} (hs : TablesSound s) : LeavesTables (execRestReport s) := by
  unfold execRestReport
  split
  · exact leavesTables_done (takeRestReport_keeps_tables hs)
  · exact leavesTables_done hs

theorem execUnknownRequest_leaves_tables {s : State} (h : Header) (code : Nat) (hs : TablesSound s) :
    LeavesTables (execUnknownRequest h code s) := by
  unfold execUnknownRequest
  split
  · exact leavesTables_done hs
  · exact leavesTables_done (takeRequest_keeps_tables _ _ _ _ _ hs)

/-- A command that carries no request leaves the tables sound. -/
theorem event_leaves_tables {i : Instr} {s : State} (hi : i.request? = none) (hs : TablesSound s) :
    LeavesTables (exec i s) := by
  cases i with
  | powerOn => exact leavesTables_done (tablesSound_of_empty rfl rfl rfl)
  | unknownRequest h code => exact execUnknownRequest_leaves_tables h code hs
  | frameByteReceived l b closed => exact leavesTables_done (receiveByte_keeps_tables l b closed hs)
  | restReport => exact execRestReport_leaves_tables hs
  | holdOverdue => exact execHoldOverdue_leaves_tables hs
  | handoverEnd enc => exact execHandoverEnd_leaves_tables enc hs
  | homingComplete => exact execHomingComplete_leaves_tables hs
  | tareComplete => exact execTareComplete_leaves_tables hs
  | frameDiscard l => exact leavesTables_of_same hs (tablesOf_setRx _ _ _)
  | interByteTimeout l => exact leavesTables_of_same hs (tablesOf_setRx _ _ _)
  | transmitFrameEnd l => exact leavesTables_of_same hs (tablesOf_onLink _ _ _)
  | ramSample raw enc => exact leavesTables_of_same hs (tablesOf_takeRamSample _ _ _)
  | moveReached enc => exact leavesTables_of_same hs ((tablesOf_takeMoveReached _).trans (tablesOf_latch _ _))
  | probeLimitArrival enc => exact leavesTables_of_same hs ((tablesOf_takeProbeArrival _).trans (tablesOf_latch _ _))
  | stall enc => exact leavesTables_of_same hs ((tablesOf_takeStall _).trans (tablesOf_latch _ _))
  | travelLimit enc => exact leavesTables_of_same hs ((tablesOf_takeTravelLimit _).trans (tablesOf_latch _ _))
  | driveFaultInput enc => exact leavesTables_of_same hs ((tablesOf_driveFault _ _).trans (tablesOf_latch s enc))
  | driveReadyPresent => exact leavesTables_of_same hs (tablesOf_onMotion _ _)
  | faultInputInactive => exact leavesTables_of_same hs (tablesOf_onMotion _ _)
  | rampOutputZero => exact leavesTables_ite hs (by simp) rfl
  | homeSwitchClosed => exact leavesTables_ite hs (by simp) rfl
  | homingRest enc => exact leavesTables_ite hs (by simp) rfl
  | homingTimeout => exact leavesTables_ite hs (by simp) rfl
  | underrunTimeout enc => exact leavesTables_ite hs (by simp) (by simp)
  | frameInstant enc frames => exact leavesTables_ite hs (by simp) rfl
  | automaticRetrain enc => exact leavesTables_ite hs (by simp) (by simp)
  | headAttach => exact leavesTables_ite hs (by simp) rfl
  | headDetach enc => exact leavesTables_ite hs (by simp) (by simp)
  | trainingAttemptSuccess => exact leavesTables_ite hs (by simp) rfl
  | trainingAttemptTimeout passed => exact leavesTables_ite hs (by simp) rfl
  | descriptorAnswer kind o => exact leavesTables_ite hs (by simp) rfl
  | descriptorTimeout => exact leavesTables_ite hs (by simp) rfl
  | rollCallAnswer serial position kind => exact leavesTables_ite hs rfl rfl
  | rollCallClose => exact leavesTables_ite hs (by simp) rfl
  | dwellElapsed enc => exact leavesTables_ite hs (by simp) (by simp)
  | stopAtRest enc => exact leavesTables_ite hs (by simp) (by simp)
  | retractReached enc => exact leavesTables_ite hs (by simp) (by simp)
  | driveReadyLost enc => exact leavesTables_ite hs (by simp) (by simp)
  | stopTimeout enc => exact leavesTables_ite hs (by simp) (by simp)
  | guardInputChange input nowOpen enc => exact leavesTables_ite hs (by simp) (by simp)
  | _ => simp [Instr.request?] at hi

/-- Every command leaves the tables sound. -/
theorem exec_leaves_tables (i : Instr) {s : State} (hs : TablesSound s) : LeavesTables (exec i s) := by
  cases hi : i.request? with
  | none => exact event_leaves_tables hi hs
  | some p =>
    rw [exec_of_request hi]
    exact leavesTables_done (takeRequest_keeps_tables _ _ _ _ _ hs)

/-- Settles O17: what the invariant reads is edited by nine requests alone, each of which keeps it; power-on empties it, the
rest report ends the job, and every other event leaves it. -/
theorem tablesStaySound : Obligations.TablesStaySound := by
  intro s t hs ht
  unfold step at ht
  split at ht
  · cases ht
    exact hs
  · next c rest _ =>
    obtain ⟨u, hu, hsound⟩ := exec_leaves_tables c (s := { s with pending := rest }) (tablesSound_congr (s := s) rfl hs)
    rw [hu] at ht
    cases ht
    exact tablesSound_congr (s := u) rfl hsound

end Sys2Proof.Machine
end

section
/-! PROOFS. The pin class table: CLASS PUT, CLASS DROP and CLASS GET (R3 to R7, R17). -/

namespace Sys2Proof.Machine

/-! ## What an admitted command of the class table is -/

theorem exec_classPut_of_admitted {h : Header} {n : Nat} {e : ClassEntry} {s : State}
    (ha : admitted h (.classPut n e) s = true) :
    exec (.classPut h n e) s = done (serveClassPut h.link h.tag n e (heard h s)) := exec_of_admitted rfl ha

theorem exec_classDrop_of_admitted {h : Header} {n : Nat} {s : State} (ha : admitted h (.classDrop n) s = true) :
    exec (.classDrop h n) s = done (serveClassDrop h.link h.tag n (heard h s)) := exec_of_admitted rfl ha

theorem exec_classGet_of_admitted {h : Header} {n : Nat} {s : State} (ha : admitted h (.classGet n) s = true) :
    exec (.classGet h n) s = done (serveClassGet h.link h.tag n (heard h s)) := exec_of_admitted rfl ha

/-! ## The classes a type and the job name (R17) -/

/-- R11: the pins of the grid are those of its columns. -/
theorem mem_gridPins {e : TypeEntry} {q : PinCell} : q ∈ gridPins e ↔ ∃ c, 1 ≤ c ∧ c ≤ e.cols ∧ q ∈ columnPins e c := by
  simp only [gridPins, columnsOf, List.mem_flatMap, List.mem_range'_1]
  constructor
  · rintro ⟨c, ⟨h1, hc⟩, hq⟩
    exact ⟨c, h1, by omega, hq⟩
  · rintro ⟨c, h1, hc, hq⟩
    exact ⟨c, ⟨h1, by omega⟩, hq⟩

/-- R17: a type names a class where a pin of one of its columns is of it. -/
theorem namesClass_iff (e : TypeEntry) (n : Nat) :
    namesClass e n = true ↔ ∃ c, 1 ≤ c ∧ c ≤ e.cols ∧ ∃ q ∈ columnPins e c, q.cls = n := by
  simp only [namesClass, List.any_eq_true, decide_eq_true_eq, mem_gridPins]
  constructor
  · rintro ⟨q, ⟨c, h1, hc, hq⟩, hn⟩
    exact ⟨c, h1, hc, q, hq, hn⟩
  · rintro ⟨c, h1, hc, q, hq, hn⟩
    exact ⟨q, ⟨c, h1, hc, hq⟩, hn⟩

/-- R17: the existing job references a class where its stored type names it. -/
theorem jobNames_iff (s : State) (n : Nat) :
    s.jobNames n = true ↔ ∃ j t, s.job = some j ∧ tabGet s.cat.types j.typeId = some t ∧ namesClass t n = true := by
  unfold State.jobNames State.jobType
  cases hj : s.job with
  | none => simp
  | some j => cases ht : tabGet s.cat.types j.typeId <;> simp [ht]

/-- R17: the count of the types that name a class. -/
theorem length_users (cat : Catalogue) (n : Nat) :
    (cat.users n).length = (cat.types.filter (fun t => namesClass t.2 n)).length := List.length_map _

@[simp] theorem heard_jobNames (h : Header) (s : State) (n : Nat) : (heard h s).jobNames n = s.jobNames n := by
  simp [State.jobNames, State.jobType]

@[simp] theorem heard_jobType (h : Header) (s : State) : (heard h s).jobType = s.jobType := by simp [State.jobType]

/-! ## CLASS PUT (R4, R5) -/

/-- A range check failed, in words. -/
theorem between_eq_false_iff (lo hi n : Nat) : between lo hi n = false ↔ ¬ (lo ≤ n ∧ n ≤ hi) := by
  rw [← between_iff, Bool.not_eq_true]

section
variable {n : Nat} {e : ClassEntry}

theorem classCheck_number (h1 : ¬ (1 ≤ n ∧ n ≤ 16)) : classCheck n e = 1 := by
  simp [classCheck, Config.classPlaces, (between_eq_false_iff 1 16 n).2 h1]

theorem classCheck_entry (h1 : 1 ≤ n ∧ n ≤ 16) (h2 : ¬ (e.entryMin ≤ e.entryMax ∧ e.entryMax ≤ 20000)) :
    classCheck n e = 2 := by
  simp [classCheck, between, Config.classPlaces, h1, h2]

theorem classCheck_hold (h1 : 1 ≤ n ∧ n ≤ 16) (h2 : e.entryMin ≤ e.entryMax ∧ e.entryMax ≤ 20000)
    (h3 : ¬ (e.holdMin ≤ e.holdMax ∧ e.holdMax ≤ 20000)) : classCheck n e = 3 := by
  simp [classCheck, between, Config.classPlaces, h1, h2, h3]

theorem classCheck_abort (h1 : 1 ≤ n ∧ n ≤ 16) (h2 : e.entryMin ≤ e.entryMax ∧ e.entryMax ≤ 20000)
    (h3 : e.holdMin ≤ e.holdMax ∧ e.holdMax ≤ 20000) (h4 : ¬ (e.entryMax < e.abort ∧ e.abort ≤ 20000)) :
    classCheck n e = 4 := by
  simp [classCheck, between, Config.classPlaces, h1, h2, h3, h4]

theorem classCheck_engage (h1 : 1 ≤ n ∧ n ≤ 16) (h2 : e.entryMin ≤ e.entryMax ∧ e.entryMax ≤ 20000)
    (h3 : e.holdMin ≤ e.holdMax ∧ e.holdMax ≤ 20000) (h4 : e.entryMax < e.abort ∧ e.abort ≤ 20000)
    (h5 : ¬ (50 ≤ e.engage ∧ e.engage ≤ 1000 ∧ e.engage % 5 = 0)) : classCheck n e = 5 := by
  simp only [← and_assoc] at h5
  simp [classCheck, between, Config.classPlaces, h1, h2, h3, h4, h5]

theorem classCheck_passes (h1 : 1 ≤ n ∧ n ≤ 16) (h2 : e.entryMin ≤ e.entryMax ∧ e.entryMax ≤ 20000)
    (h3 : e.holdMin ≤ e.holdMax ∧ e.holdMax ≤ 20000) (h4 : e.entryMax < e.abort ∧ e.abort ≤ 20000)
    (h5 : 50 ≤ e.engage ∧ e.engage ≤ 1000 ∧ e.engage % 5 = 0) : classCheck n e = 0 := by
  simp [classCheck, between, Config.classPlaces, h1, h2, h3, h4, h5]

end

/-- R4: the number of a check that fails is the report's. -/
theorem serveClassPut_of_failed {l : Link} {tag n k : Nat} {e : ClassEntry} {s : State} (hk : k ≠ 0)
    (h : classCheck n e = k) : serveClassPut l tag n e s = s.reply l tag .badField [.u8 k, .u16 0] := by
  simp [serveClassPut, h, hk]

/-- R17: the lock on a class that the job's type names. -/
theorem serveClassPut_of_locked {l : Link} {tag n : Nat} {e : ClassEntry} {s : State} (hc : classCheck n e = 0)
    (hl : s.jobNames n = true) : serveClassPut l tag n e s = s.refuse l tag .inUse := by
  simp [serveClassPut, hc, hl]

/-- R5: the report of check 6. -/
theorem serveClassPut_of_check6 {l : Link} {tag n t : Nat} {e : ClassEntry} {s : State} (hc : classCheck n e = 0)
    (hl : s.jobNames n = false) (h6 : check6 s.cat n e = some t) :
    serveClassPut l tag n e s = s.reply l tag .badField [.u8 6, .u16 t] := by
  simp [serveClassPut, hc, hl, h6]

/-- R4: the entry is stored. -/
theorem serveClassPut_stores {l : Link} {tag n : Nat} {e : ClassEntry} {s : State} (hc : classCheck n e = 0)
    (hl : s.jobNames n = false) (h6 : check6 s.cat n e = none) :
    serveClassPut l tag n e s = { s with cat := { s.cat with classes := tabPut s.cat.classes n e } }.reply l tag .ok
      [.u8 (s.cat.users n).length] := by
  simp [serveClassPut, hc, hl, h6]

/-- R5: check 11 fails for a type at some rank. -/
theorem isSome_check11 (classes : List (Nat × ClassEntry)) (e : TypeEntry) :
    (check11 classes e).isSome = (ranksOf e).any (fun r => decide (e.seat - e.tol < onsetOf e r + rankEngage classes e r)) := by
  rw [check11, List.isSome_find?]

/-- R5: check 6 finds the first type that names the class and fails check 11 with the new entry. -/
theorem check6_eq (cat : Catalogue) (n : Nat) (e : ClassEntry) :
    check6 cat n e = (cat.types.find? (fun t => namesClass t.2 n && (ranksOf t.2).any (fun r =>
      decide (t.2.seat - t.2.tol < onsetOf t.2 r + rankEngage (tabPut cat.classes n e) t.2 r)))).map (·.1) := by
  simp only [check6, isSome_check11]

/-- Settles O12: the served request takes the branch that the first failing check names. -/
theorem classPutChecksAndStores : Obligations.ClassPutChecksAndStores := by
  intro h n e s ha c1 c2 c3 c4 c5 report names locked longest failing
  have hlocked : locked ↔ s.jobNames n = true := by
    simp only [jobNames_iff, namesClass_iff, locked, names]
  have hfailing : check6 s.cat n e = failing.map (·.1) := check6_eq s.cat n e
  rw [exec_classPut_of_admitted ha]
  have hreport : ∀ k, k ≠ 0 → classCheck n e = k →
      done (serveClassPut h.link h.tag n e (heard h s)) = report k 0 := fun k hk hc => by
    rw [serveClassPut_of_failed hk hc]; rfl
  refine ⟨fun t => namesClass_iff t n, fun h1 => hreport 1 (by decide) (classCheck_number h1),
    fun h1 h2 => hreport 2 (by decide) (classCheck_entry h1 h2),
    fun h1 h2 h3 => hreport 3 (by decide) (classCheck_hold h1 h2 h3),
    fun h1 h2 h3 h4 => hreport 4 (by decide) (classCheck_abort h1 h2 h3 h4),
    fun h1 h2 h3 h4 h5 => hreport 5 (by decide) (classCheck_engage h1 h2 h3 h4 h5),
    fun h1 h2 h3 h4 h5 => ?_⟩
  have hpass : classCheck n e = 0 := classCheck_passes h1 h2 h3 h4 h5
  refine ⟨fun hl => ?_, fun hl t ht => ?_, fun hl hf => ?_⟩
  · rw [serveClassPut_of_locked hpass (by simpa using hlocked.1 hl)]
    rfl
  · rw [serveClassPut_of_check6 hpass (by simpa using mt hlocked.2 hl) (t := t.1) (by simp [hfailing, ht])]
    rfl
  · rw [serveClassPut_stores hpass (by simpa using mt hlocked.2 hl) (by simp [hfailing, hf])]
    simp [answered, done, length_users]

/-! ## CLASS DROP (R6) -/

/-- R6: in a table in order the first type that names a class is the one of lowest id. -/
theorem users_head {cat : Catalogue} {n : Nat} {t : Nat × TypeEntry} (hsorted : tabSorted cat.types = true)
    (ht : t ∈ cat.types) (hn : namesClass t.2 n = true)
    (hmin : ∀ u ∈ cat.types, namesClass u.2 n = true → t.1 ≤ u.1) : ∃ rest, cat.users n = t.1 :: rest := by
  have hmem : t ∈ cat.types.filter (fun t => namesClass t.2 n) := List.mem_filter.2 ⟨ht, hn⟩
  have hrise := ((tabSorted_iff _).1 hsorted).filter (fun t => namesClass t.2 n)
  unfold Catalogue.users
  cases hf : cat.types.filter (fun t => namesClass t.2 n) with
  | nil => simp [hf] at hmem
  | cons a rest =>
    have ha : a ∈ cat.types ∧ namesClass a.2 n = true := List.mem_filter.1 (hf ▸ List.mem_cons_self)
    have hle : t.1 ≤ a.1 := hmin a ha.1 ha.2
    rw [hf] at hmem hrise
    rcases List.mem_cons.1 hmem with rfl | hmem
    · exact ⟨_, rfl⟩
    · have := (List.pairwise_cons.1 hrise).1 t hmem
      omega

/-- R6: no stored type names the class. -/
theorem users_eq_nil {cat : Catalogue} {n : Nat} (h : ∀ t ∈ cat.types, namesClass t.2 n = false) : cat.users n = [] := by
  simpa [Catalogue.users, List.filter_eq_nil_iff] using h

/-- Settles O13: the served request refuses by its place, its absence or its users, and else drops the entry. -/
theorem classDropVacatesThePlace : Obligations.ClassDropVacatesThePlace := by
  intro h n s ha hsorted
  rw [exec_classDrop_of_admitted ha]
  refine ⟨fun hn => ?_, fun h1 h16 hnone => ?_, fun h1 h16 hsome t ht hnames hmin => ?_, fun h1 h16 hsome hfree => ?_⟩
  · have hn' : between 1 16 n = false := (between_eq_false_iff 1 16 n).2 (by omega)
    simp [serveClassDrop, Config.classPlaces, hn', refusedWith, answered, State.refuse, done]
  all_goals have hn' : between 1 16 n = true := (between_iff 1 16 n).2 ⟨h1, h16⟩
  · simp [serveClassDrop, Config.classPlaces, hn', hnone, refusedWith, answered, State.refuse, done]
  all_goals obtain ⟨e, he⟩ := Option.ne_none_iff_exists'.1 hsome
  · obtain ⟨rest, hrest⟩ := users_head hsorted ht hnames hmin
    simp [serveClassDrop, Config.classPlaces, hn', he, hrest, answered, done]
  · refine ⟨tabDrop s.cat.classes n, tabGet_tabDrop_self _ _, fun k hk => tabGet_tabDrop_other _ _ hk, ?_⟩
    simp [serveClassDrop, Config.classPlaces, hn', he, users_eq_nil hfree, answered, done]

/-! ## CLASS GET (R7) -/

/-- R7: the directory of the classes, each with the count of its users. -/
theorem classDirectory_eq (cat : Catalogue) :
    classDirectory cat = Wire.u8 cat.classes.length :: cat.classes.flatMap (fun c =>
      [Wire.u8 c.1, Wire.u8 (cat.types.filter (fun t => namesClass t.2 c.1)).length]) := by
  simp only [classDirectory, length_users]

theorem serveClassGet_directory (l : Link) (tag : Nat) (s : State) :
    serveClassGet l tag 0 s = s.reply l tag .ok (classDirectory s.cat) := rfl

theorem serveClassGet_badField {n : Nat} (l : Link) (tag : Nat) (s : State) (h : 16 < n) :
    serveClassGet l tag n s = s.refuse l tag .badField := by
  simp [serveClassGet, Config.classPlaces, h, show n ≠ 0 by omega]

theorem serveClassGet_notFound {n : Nat} {s : State} (l : Link) (tag : Nat) (h1 : 1 ≤ n) (h16 : n ≤ 16)
    (hn : tabGet s.cat.classes n = none) : serveClassGet l tag n s = s.refuse l tag .notFound := by
  simp [serveClassGet, Config.classPlaces, hn, show n ≠ 0 by omega, show ¬ 16 < n by omega]

theorem serveClassGet_entry {n : Nat} {e : ClassEntry} {s : State} (l : Link) (tag : Nat) (h1 : 1 ≤ n) (h16 : n ≤ 16)
    (hn : tabGet s.cat.classes n = some e) : serveClassGet l tag n s =
      s.reply l tag .ok (classWire n e ++ [.u8 (s.cat.users n).length, .flag (s.jobNames n)]) := by
  simp [serveClassGet, Config.classPlaces, hn, show n ≠ 0 by omega, show ¬ 16 < n by omega]

end Sys2Proof.Machine
end

section
/-! PROOFS. The connector type table: CATALOGUE PUT, CATALOGUE DROP and CATALOGUE GET (R12 to R16), and the two reads. -/

namespace Sys2Proof.Machine

/-! ## What an admitted command of the type table is -/

theorem exec_cataloguePut_of_admitted {h : Header} {id : Nat} {e : TypeEntry} {s : State}
    (ha : admitted h (.cataloguePut id e) s = true) :
    exec (.cataloguePut h id e) s = done (serveCataloguePut h.link h.tag id e (heard h s)) := exec_of_admitted rfl ha

theorem exec_catalogueDrop_of_admitted {h : Header} {id : Nat} {s : State} (ha : admitted h (.catalogueDrop id) s = true) :
    exec (.catalogueDrop h id) s = done (serveCatalogueDrop h.link h.tag id (heard h s)) := exec_of_admitted rfl ha

theorem exec_catalogueGet_of_admitted {h : Header} {id : Nat} {s : State} (ha : admitted h (.catalogueGet id) s = true) :
    exec (.catalogueGet h id) s = done (serveCatalogueGet h.link h.tag id (heard h s)) := exec_of_admitted rfl ha

/-! ## CATALOGUE PUT (R12 to R14) -/

section
variable {l : Link} {tag id : Nat} {e : TypeEntry} {s : State}

theorem serveCataloguePut_reports {r : CheckReport} (hc : typeCheck s.cat.classes id e = some r) :
    serveCataloguePut l tag id e s = s.reply l tag .badField (reportWire r) := by
  simp [serveCataloguePut, hc]

theorem serveCataloguePut_inUse (hc : typeCheck s.cat.classes id e = none) (hj : s.jobType = some id) :
    serveCataloguePut l tag id e s = s.refuse l tag .inUse := by
  simp [serveCataloguePut, hc, hj]

theorem serveCataloguePut_full (hc : typeCheck s.cat.classes id e = none) (hj : s.jobType ≠ some id)
    (hn : tabGet s.cat.types id = none) (hl : 64 ≤ s.cat.types.length) :
    serveCataloguePut l tag id e s = s.refuse l tag .full := by
  simp [serveCataloguePut, hc, hj, hn, Config.typeCapacity, hl]

theorem serveCataloguePut_stores (hc : typeCheck s.cat.classes id e = none) (hj : s.jobType ≠ some id)
    (hroom : tabGet s.cat.types id ≠ none ∨ s.cat.types.length < 64) :
    serveCataloguePut l tag id e s = { s with cat := { s.cat with types := tabPut s.cat.types id e } }.reply l tag .ok
      [.u8 (tabPut s.cat.types id e).length] := by
  have hfits : ¬ ((tabGet s.cat.types id).isNone = true ∧ Config.typeCapacity ≤ s.cat.types.length) := by
    rintro ⟨habsent, hfull⟩
    rcases hroom with hpresent | hroom
    · exact hpresent (Option.isNone_iff_eq_none.1 habsent)
    · exact absurd hroom (Nat.not_lt.2 hfull)
  simp only [serveCataloguePut, hc, hj, hfits, if_false]

/-! ## CATALOGUE DROP (R15) -/

theorem serveCatalogueDrop_badField (h : id = 0 ∨ 9999 < id) :
    serveCatalogueDrop l tag id s = s.refuse l tag .badField := by
  simp [serveCatalogueDrop, (between_eq_false_iff 1 9999 id).2 (by omega)]

theorem serveCatalogueDrop_notFound (h1 : 1 ≤ id) (h9 : id ≤ 9999) (hn : tabGet s.cat.types id = none) :
    serveCatalogueDrop l tag id s = s.refuse l tag .notFound := by
  simp [serveCatalogueDrop, (between_iff 1 9999 id).2 ⟨h1, h9⟩, hn]

theorem serveCatalogueDrop_inUse (h1 : 1 ≤ id) (h9 : id ≤ 9999) (hn : tabGet s.cat.types id ≠ none)
    (hj : s.jobType = some id) : serveCatalogueDrop l tag id s = s.refuse l tag .inUse := by
  obtain ⟨e, he⟩ := Option.ne_none_iff_exists'.1 hn
  simp [serveCatalogueDrop, (between_iff 1 9999 id).2 ⟨h1, h9⟩, he, hj]

theorem serveCatalogueDrop_drops (h1 : 1 ≤ id) (h9 : id ≤ 9999) (hn : tabGet s.cat.types id ≠ none)
    (hj : s.jobType ≠ some id) : serveCatalogueDrop l tag id s = { s with
      cat := { s.cat with types := tabDrop s.cat.types id }
      qual := { s.qual with table := s.qual.table.filter (fun q => decide (q.1 / 16 ≠ id)) } }.reply
        l tag .ok [.u8 (qualsOf s.qual.table id).length] := by
  obtain ⟨e, he⟩ := Option.ne_none_iff_exists'.1 hn
  simp [serveCatalogueDrop, (between_iff 1 9999 id).2 ⟨h1, h9⟩, he, hj]

end

/-- Settles O15: the served request refuses by its first failing check, and else puts or drops the type in its table. -/
theorem catalogueEditsTheTypeTable : Obligations.CatalogueEditsTheTypeTable := by
  intro h id e s
  have hjob : (heard h s).jobType = s.job.map (·.typeId) := heard_jobType h s
  refine ⟨fun ha => ?_, fun ha => ?_⟩
  · rw [exec_cataloguePut_of_admitted ha]
    refine ⟨fun r hr => ?_, fun hc => ⟨fun hj => ?_, fun hj hn hl => ?_, fun hj hroom => ?_⟩⟩
    · rw [serveCataloguePut_reports (r := r) (by simpa using hr)]
      rfl
    · rw [serveCataloguePut_inUse (by simpa using hc) (by rwa [hjob])]
      rfl
    · rw [serveCataloguePut_full (by simpa using hc) (by rwa [hjob]) (by simpa using hn) (by simpa using hl)]
      rfl
    · rw [serveCataloguePut_stores (by simpa using hc) (by rwa [hjob]) (by simpa using hroom)]
      refine ⟨tabPut s.cat.types id e, tabGet_tabPut_self _ _ _, fun k hk => tabGet_tabPut_other _ _ _ hk,
        fun hsorted => ⟨tabSorted_tabPut _ _ hsorted, ?_⟩, by simp [answered, done]⟩
      simp [length_tabPut hsorted]
  · rw [exec_catalogueDrop_of_admitted ha]
    refine ⟨fun hid => ?_, fun h1 h9 => ⟨fun hn => ?_, fun hn hj => ?_, fun hn hj => ?_⟩⟩
    · rw [serveCatalogueDrop_badField hid]
      rfl
    · rw [serveCatalogueDrop_notFound h1 h9 (by simpa using hn)]
      rfl
    · rw [serveCatalogueDrop_inUse h1 h9 (by simpa using hn) (by rwa [hjob])]
      rfl
    · rw [serveCatalogueDrop_drops h1 h9 (by simpa using hn) (by rwa [hjob])]
      simp [answered, done, tabDrop, qualsOf]

/-! ## CATALOGUE GET (R16, R19) -/

section
variable {l : Link} {tag id : Nat} {s : State}

theorem serveCatalogueGet_directory : serveCatalogueGet l tag 0 s = s.reply l tag .ok (typeDirectory s) := rfl

theorem serveCatalogueGet_badField (h : 9999 < id) : serveCatalogueGet l tag id s = s.refuse l tag .badField := by
  simp [serveCatalogueGet, h, show id ≠ 0 by omega]

theorem serveCatalogueGet_notFound (h1 : 1 ≤ id) (h9 : id ≤ 9999) (hn : tabGet s.cat.types id = none) :
    serveCatalogueGet l tag id s = s.refuse l tag .notFound := by
  simp [serveCatalogueGet, hn, show id ≠ 0 by omega, show ¬ 9999 < id by omega]

theorem serveCatalogueGet_entry {e : TypeEntry} (h1 : 1 ≤ id) (h9 : id ≤ 9999) (hn : tabGet s.cat.types id = some e) :
    serveCatalogueGet l tag id s = s.reply l tag .ok (typeWire id e
      ++ [.u16 (pinCount e), .u32 (searchStart s.cat.classes e), .u32 (bandLow e), .u32 (bandHigh e),
          .u32 (overtravelDepth e), .flag (decide (s.jobType = some id))]) := by
  simp [serveCatalogueGet, hn, show id ≠ 0 by omega, show ¬ 9999 < id by omega]

end

/-- R172: the byte of a pattern cell, by its form. -/
theorem cellCode_eq (c : Option PinCell) : cellCode c = match c with
    | none => 0
    | some pin => 16 * (pin.rank - 1) + pin.cls := by
  cases c <;> rfl

/-- R17: the mark that the job references a class is the one that says so. -/
theorem jobNames_eq_of_iff {s : State} {n : Nat} {used : Bool}
    (h : used = true ↔ ∃ j t c, s.job = some j ∧ tabGet s.cat.types j.typeId = some t ∧ 1 ≤ c ∧ c ≤ t.cols
      ∧ ∃ q ∈ columnPins t c, q.cls = n) : s.jobNames n = used := by
  rw [Bool.eq_iff_iff, h, jobNames_iff]
  constructor
  · rintro ⟨j, t, hj, ht, hn⟩
    obtain ⟨c, hc⟩ := (namesClass_iff t n).1 hn
    exact ⟨j, t, c, hj, ht, hc⟩
  · rintro ⟨j, t, c, hj, ht, hc⟩
    exact ⟨j, t, hj, ht, (namesClass_iff t n).2 ⟨c, hc⟩⟩

/-- Settles O16: the served read answers by its number alone, from the tables as they stand. -/
theorem catalogueReadsChangeNothing : Obligations.CatalogueReadsChangeNothing := by
  intro h n s
  refine ⟨fun ha => ?_, fun ha => ?_⟩
  · rw [exec_classGet_of_admitted ha]
    refine ⟨fun hn => ?_, fun hn => ?_, fun h1 h16 hn => ?_, fun h1 h16 e used he hused => ?_⟩
    · subst hn
      rw [serveClassGet_directory, classDirectory_eq, heard_cat]
      rfl
    · rw [serveClassGet_badField _ _ _ hn]
      rfl
    · rw [serveClassGet_notFound _ _ h1 h16 (by simpa using hn)]
      rfl
    · rw [serveClassGet_entry (e := e) _ _ h1 h16 (by simpa using he), heard_cat, heard_jobNames, jobNames_eq_of_iff hused,
        length_users]
      rfl
  · rw [exec_catalogueGet_of_admitted ha]
    refine ⟨fun hn => ?_, fun hn => ?_, fun h1 h9 hn => ?_, fun h1 h9 e he => ?_⟩
    · subst hn
      rw [serveCatalogueGet_directory, typeDirectory, heard_cat, heard_jobType]
      rfl
    · rw [serveCatalogueGet_badField hn]
      rfl
    · rw [serveCatalogueGet_notFound h1 h9 (by simpa using hn)]
      rfl
    · rw [serveCatalogueGet_entry (e := e) h1 h9 (by simpa using he), heard_cat, heard_jobType]
      simp only [typeWire, cellCode_eq]
      rfl

end Sys2Proof.Machine
end

section
/-! PROOFS. The eleven checks of CATALOGUE PUT (R8 to R13): each finds the first offending item of its rule. -/

namespace Sys2Proof.Machine

/-! ## The first offending item of a range, and of a rectangle -/

/-- `x` is the first of 1 to `n` that is bad. -/
def FirstBad (bad : Nat → Prop) (n x : Nat) : Prop := 1 ≤ x ∧ x ≤ n ∧ bad x ∧ ∀ y, 1 ≤ y → y < x → ¬ bad y

/-- None of 1 to `n` is bad. -/
def NoneBad (bad : Nat → Prop) (n : Nat) : Prop := ∀ x, 1 ≤ x → x ≤ n → ¬ bad x

/-- `(x, y)` is the first bad pair of 1 to `m` and 1 to `n`, in order of `x`, then of `y`. -/
def FirstBad2 (bad : Nat → Nat → Prop) (m n x y : Nat) : Prop := 1 ≤ x ∧ x ≤ m ∧ 1 ≤ y ∧ y ≤ n ∧ bad x y
  ∧ ∀ x' y', 1 ≤ x' → x' ≤ m → 1 ≤ y' → y' ≤ n → bad x' y' → x < x' ∨ x = x' ∧ y ≤ y'

/-- No pair of 1 to `m` and 1 to `n` is bad. -/
def NoneBad2 (bad : Nat → Nat → Prop) (m n : Nat) : Prop := ∀ x y, 1 ≤ x → x ≤ m → 1 ≤ y → y ≤ n → ¬ bad x y

/-- In a list in order a search finds the member that is bad and has no bad one before it. -/
theorem find?_eq_some_of_first {α : Type} {R : α → α → Prop} {p : α → Bool} {l : List α} {x : α} (hl : l.Pairwise R)
    (hx : x ∈ l) (hp : p x = true) (hfirst : ∀ y ∈ l, R y x → p y = false) : l.find? p = some x := by
  induction l with
  | nil => cases hx
  | cons a l ih =>
    obtain ⟨ha, hl⟩ := List.pairwise_cons.1 hl
    rcases List.mem_cons.1 hx with rfl | hx
    · simp [hp]
    · rw [List.find?_cons_of_neg (by simp [hfirst a List.mem_cons_self (ha x hx)])]
      exact ih hl hx (fun y hy => hfirst y (List.mem_cons_of_mem _ hy))

section
variable {bad : Nat → Prop} {p : Nat → Bool} {n x : Nat}

theorem find?_range_of_firstBad (hp : ∀ x, 1 ≤ x → x ≤ n → (p x = true ↔ bad x)) (h : FirstBad bad n x) :
    (List.range' 1 n).find? p = some x := by
  obtain ⟨h1, hn, hbad, hfirst⟩ := h
  refine find?_eq_some_of_first List.pairwise_lt_range' (List.mem_range'_1.2 ⟨h1, by omega⟩) ((hp x h1 hn).2 hbad)
    (fun y hy hlt => ?_)
  have hy1 := (List.mem_range'_1.1 hy).1
  exact Bool.eq_false_iff.2 (mt (hp y hy1 (by omega)).1 (hfirst y hy1 hlt))

theorem find?_range_of_noneBad (hp : ∀ x, 1 ≤ x → x ≤ n → (p x = true ↔ bad x)) (h : NoneBad bad n) :
    (List.range' 1 n).find? p = none := by
  refine List.find?_eq_none.2 (fun y hy => ?_)
  obtain ⟨h1, hn⟩ := List.mem_range'_1.1 hy
  exact mt (hp y h1 (by omega)).1 (h y h1 (by omega))

end

/-- The pairs of 1 to `m` and 1 to `n`, in order. -/
def rectangle (m n : Nat) : List (Nat × Nat) := (List.range' 1 m).flatMap (fun x => (List.range' 1 n).map (fun y => (x, y)))

theorem mem_rectangle {m n x y : Nat} : (x, y) ∈ rectangle m n ↔ 1 ≤ x ∧ x ≤ m ∧ 1 ≤ y ∧ y ≤ n := by
  simp only [rectangle, List.mem_flatMap, List.mem_map, List.mem_range'_1, Prod.mk.injEq]
  constructor
  · rintro ⟨a, ha, b, hb, rfl, rfl⟩
    omega
  · intro h
    exact ⟨x, by omega, y, by omega, rfl, rfl⟩

/-- The pairs stand in order of their first part, then of their second. -/
theorem rectangle_pairwise (m n : Nat) :
    (rectangle m n).Pairwise (fun a b => a.1 < b.1 ∨ a.1 = b.1 ∧ a.2 < b.2) := by
  refine List.pairwise_flatMap.2 ⟨fun x _ => ?_, ?_⟩
  · exact List.pairwise_map.2 ((List.pairwise_lt_range' (s := 1) (n := n)).imp (fun h => .inr ⟨rfl, h⟩))
  · refine (List.pairwise_lt_range' (s := 1) (n := m)).imp (fun {x x'} h a ha b hb => ?_)
    obtain ⟨_, _, rfl⟩ := List.mem_map.1 ha
    obtain ⟨_, _, rfl⟩ := List.mem_map.1 hb
    exact .inl h

section
variable {bad : Nat → Nat → Prop} {p : Nat × Nat → Bool} {m n x y : Nat}

theorem find?_rectangle_of_firstBad2 (hp : ∀ x y, 1 ≤ x → x ≤ m → 1 ≤ y → y ≤ n → (p (x, y) = true ↔ bad x y))
    (h : FirstBad2 bad m n x y) : (rectangle m n).find? p = some (x, y) := by
  obtain ⟨hx, hm, hy, hn, hbad, hfirst⟩ := h
  refine find?_eq_some_of_first (rectangle_pairwise m n) (mem_rectangle.2 ⟨hx, hm, hy, hn⟩) ((hp x y hx hm hy hn).2 hbad) ?_
  rintro ⟨a, b⟩ hab hlt
  obtain ⟨ha, ham, hb, hbn⟩ := mem_rectangle.1 hab
  refine Bool.eq_false_iff.2 (fun hpab => ?_)
  have := hfirst a b ha ham hb hbn ((hp a b ha ham hb hbn).1 hpab)
  simp only at hlt
  omega

theorem find?_rectangle_of_noneBad2 (hp : ∀ x y, 1 ≤ x → x ≤ m → 1 ≤ y → y ≤ n → (p (x, y) = true ↔ bad x y))
    (h : NoneBad2 bad m n) : (rectangle m n).find? p = none := by
  refine List.find?_eq_none.2 ?_
  rintro ⟨a, b⟩ hab
  obtain ⟨ha, ham, hb, hbn⟩ := mem_rectangle.1 hab
  exact mt (hp a b ha ham hb hbn).1 (h a b ha ham hb hbn)

end

/-! ## What each check looks for -/

/-- Check 2: the name. -/
theorem name_check_iff (e : TypeEntry) : (between 1 16 e.name.length && e.name.all printable) = true
    ↔ 1 ≤ e.name.length ∧ e.name.length ≤ 16 ∧ ∀ c ∈ e.name, 32 ≤ c ∧ c ≤ 126 := by
  simp [printable, between_iff, and_assoc]

/-- Check 3: C, R and K. -/
theorem size_check_iff (e : TypeEntry) : (between 1 48 e.cols && between 1 8 e.rows && between 1 4 e.ranks) = true
    ↔ 1 ≤ e.cols ∧ e.cols ≤ 48 ∧ 1 ≤ e.rows ∧ e.rows ≤ 8 ∧ 1 ≤ e.ranks ∧ e.ranks ≤ 4 := by
  simp [between_iff, and_assoc]

/-- Check 4: an onset depth of R9. -/
theorem onsetBad_iff {e : TypeEntry} {r : Nat} (hlen : e.onsets.length = e.ranks) (hr : r ≤ e.ranks) :
    onsetBad e r = true ↔ onsetOf e r % 5 ≠ 0 ∨ 2 ≤ r ∧ onsetOf e r < onsetOf e (r - 1) + 100 := by
  simp [onsetBad, hlen, hr]

/-- Check 5: the seat depth and its tolerance. -/
theorem seat_check_iff (e : TypeEntry) :
    (between 500 3800 e.seat && between 20 300 e.tol && decide (e.seat + e.tol + 50 ≤ 3995)) = true
    ↔ 500 ≤ e.seat ∧ e.seat ≤ 3800 ∧ 20 ≤ e.tol ∧ e.tol ≤ 300 ∧ e.seat + e.tol + 50 ≤ 3995 := by
  simp [between_iff, and_assoc]

/-- Check 6: the slope threshold and the touch threshold. -/
theorem threshold_check_iff (e : TypeEntry) : (between 1 200 e.slope && between 20 500 e.touch) = true
    ↔ 1 ≤ e.slope ∧ e.slope ≤ 200 ∧ 20 ≤ e.touch ∧ e.touch ≤ 500 := by
  simp [between_iff, and_assoc]

/-- Check 7: a column with a pattern number outside 1 to P. -/
theorem astray_iff (e : TypeEntry) (j : Nat) : (!between 1 e.patterns.length (e.assign.getD (j - 1) 0)) = true
    ↔ e.assign.getD (j - 1) 0 = 0 ∨ e.patterns.length < e.assign.getD (j - 1) 0 := by
  rw [Bool.not_eq_true', between_eq_false_iff]
  omega

/-- Check 7: a pattern that no column uses. -/
theorem unused_iff (e : TypeEntry) (p : Nat) :
    (!(columnsOf e).any (fun j => decide (e.assign.getD (j - 1) 0 = p))) = true
    ↔ ∀ j, 1 ≤ j → j ≤ e.cols → e.assign.getD (j - 1) 0 ≠ p := by
  simp only [Bool.not_eq_true', List.any_eq_false, columnsOf, List.mem_range'_1, decide_eq_true_eq]
  exact ⟨fun h j h1 hj => h j ⟨h1, by omega⟩, fun h j hj => h j hj.1 (by omega)⟩

/-- Check 8: a cell of a rank outside 1 to K or of an absent class. -/
theorem cellBad_iff {classes : List (Nat × ClassEntry)} {e : TypeEntry} {p : Nat} (i : Nat) (hp : 1 ≤ p) :
    cellBad classes e ((patternOf e p).getD (i - 1) none) = true
    ↔ ∃ cells c, e.patterns[p - 1]? = some cells ∧ cells[i - 1]? = some (some c)
      ∧ (c.rank = 0 ∨ e.ranks < c.rank ∨ tabGet classes c.cls = none) := by
  have hp0 : p ≠ 0 := by omega
  simp only [patternOf, hp0, if_false, List.getD_eq_getElem?_getD]
  cases hcells : e.patterns[p - 1]? with
  | none => simp [cellBad]
  | some cells =>
    rcases hc : cells[i - 1]? with _ | _ | c
    · simp [cellBad, hc]
    · simp [cellBad, hc]
    · have hrank : ¬ (1 ≤ c.rank ∧ c.rank ≤ e.ranks) ↔ c.rank = 0 ∨ e.ranks < c.rank := by omega
      simp [cellBad, hc, between_eq_false_iff, hrank, or_assoc]

/-- Check 9: a column with pins of two classes at a rank. -/
theorem twoClasses_iff (e : TypeEntry) (j r : Nat) : twoClasses e j r = true
    ↔ ∃ c ∈ columnPins e j, ∃ c' ∈ columnPins e j, c.rank = r ∧ c'.rank = r ∧ c.cls ≠ c'.cls := by
  have hmem : ∀ q, q ∈ rankPins e j r ↔ q ∈ columnPins e j ∧ q.rank = r := fun q => by simp [rankPins]
  simp only [twoClasses, List.any_eq_true, decide_eq_true_eq, hmem]
  constructor
  · rintro ⟨q, ⟨hq, hqr⟩, hne⟩
    cases hpins : rankPins e j r with
    | nil => simpa [hpins] using (hmem q).2 ⟨hq, hqr⟩
    | cons a rest =>
      obtain ⟨ha, har⟩ := (hmem a).1 (hpins ▸ List.mem_cons_self)
      have hclass : rankClass e j r = a.cls := by simp [rankClass, hpins]
      exact ⟨q, hq, a, ha, hqr, har, hclass ▸ hne⟩
  · rintro ⟨c, hc, c', hc', hr, hr', hne⟩
    by_cases h : c.cls = rankClass e j r
    · exact ⟨c', ⟨hc', hr'⟩, fun h' => hne (h.trans h'.symm)⟩
    · exact ⟨c, ⟨hc, hr⟩, h⟩

/-- Check 10: a rank without a pin. -/
theorem bareRank_iff (e : TypeEntry) (r : Nat) :
    (!(gridPins e).any (fun p => decide (p.rank = r))) = true ↔ ∀ c ∈ gridPins e, c.rank ≠ r := by
  simp

/-! ## Each check, by its first offending item -/

/-- R9: rank `r`'s onset depth is refused. -/
def OnsetAstray (e : TypeEntry) (r : Nat) : Prop :=
  onsetOf e r % 5 ≠ 0 ∨ 2 ≤ r ∧ onsetOf e r < onsetOf e (r - 1) + 100

/-- R11: column `j`'s pattern number is outside 1 to P. -/
def PatternAstray (e : TypeEntry) (j : Nat) : Prop :=
  e.assign.getD (j - 1) 0 = 0 ∨ e.patterns.length < e.assign.getD (j - 1) 0

/-- R11: no column uses pattern `p`. -/
def PatternUnused (e : TypeEntry) (p : Nat) : Prop := ∀ j, 1 ≤ j → j ≤ e.cols → e.assign.getD (j - 1) 0 ≠ p

/-- R11: the cell of pattern `p` and row `i` has a rank outside 1 to K or names an absent class. -/
def CellAstray (classes : List (Nat × ClassEntry)) (e : TypeEntry) (p i : Nat) : Prop :=
  ∃ cells c, e.patterns[p - 1]? = some cells ∧ cells[i - 1]? = some (some c)
    ∧ (c.rank = 0 ∨ e.ranks < c.rank ∨ tabGet classes c.cls = none)

/-- R11: column `j` holds pins of two classes at rank `r`. -/
def RankMixed (e : TypeEntry) (j r : Nat) : Prop :=
  ∃ c ∈ columnPins e j, ∃ c' ∈ columnPins e j, c.rank = r ∧ c'.rank = r ∧ c.cls ≠ c'.cls

/-- R11: no pin has rank `r`. -/
def RankBare (e : TypeEntry) (r : Nat) : Prop := ∀ c ∈ gridPins e, c.rank ≠ r

/-- R12: rank `r`'s onset and engage length pass the lower end of the seat band. -/
def RankDeep (classes : List (Nat × ClassEntry)) (e : TypeEntry) (r : Nat) : Prop :=
  e.seat - e.tol < onsetOf e r + rankEngage classes e r

section
variable {classes : List (Nat × ClassEntry)} {e : TypeEntry}

/-- R172: an entry that a frame can carry has K onset depths. -/
theorem onsets_length_of_wellFormed (hwf : e.wellFormed = true) : e.onsets.length = e.ranks := by
  simp only [TypeEntry.wellFormed, Bool.and_eq_true, decide_eq_true_eq] at hwf
  obtain ⟨⟨⟨⟨⟨⟨⟨⟨⟨⟨_, hlen⟩, _⟩, _⟩, _⟩, _⟩, _⟩, _⟩, _⟩, _⟩, _⟩ := hwf
  exact hlen

/-- The ranks that check 4 goes through, in an entry that a frame can carry. -/
theorem check4_eq (hlen : e.onsets.length = e.ranks) : check4 e = (List.range' 1 e.ranks).find? (onsetBad e) := by
  simp [check4, hlen]

theorem check4_of_first {r : Nat} (hlen : e.onsets.length = e.ranks) (h : FirstBad (OnsetAstray e) e.ranks r) :
    check4 e = some r :=
  (check4_eq hlen).trans (find?_range_of_firstBad (fun _ _ hr => onsetBad_iff hlen hr) h)

theorem check4_of_none (hlen : e.onsets.length = e.ranks) (h : NoneBad (OnsetAstray e) e.ranks) : check4 e = none :=
  (check4_eq hlen).trans (find?_range_of_noneBad (fun _ _ hr => onsetBad_iff hlen hr) h)

theorem check7Column_of_first {j : Nat} (h : FirstBad (PatternAstray e) e.cols j) : check7Column e = some j :=
  find?_range_of_firstBad (fun j _ _ => astray_iff e j) h

theorem check7Column_of_none (h : NoneBad (PatternAstray e) e.cols) : check7Column e = none :=
  find?_range_of_noneBad (fun j _ _ => astray_iff e j) h

theorem check7Pattern_of_first {p : Nat} (h : FirstBad (PatternUnused e) e.patterns.length p) : check7Pattern e = some p :=
  find?_range_of_firstBad (fun p _ _ => unused_iff e p) h

theorem check7Pattern_of_none (h : NoneBad (PatternUnused e) e.patterns.length) : check7Pattern e = none :=
  find?_range_of_noneBad (fun p _ _ => unused_iff e p) h

theorem check8_of_first {p i : Nat} (h : FirstBad2 (CellAstray classes e) e.patterns.length e.rows p i) :
    check8 classes e = some (p, i) :=
  find?_rectangle_of_firstBad2 (fun _ i hp _ _ _ => cellBad_iff i hp) h

theorem check8_of_none (h : NoneBad2 (CellAstray classes e) e.patterns.length e.rows) : check8 classes e = none :=
  find?_rectangle_of_noneBad2 (fun _ i hp _ _ _ => cellBad_iff i hp) h

theorem check9_of_first {j r : Nat} (h : FirstBad2 (RankMixed e) e.cols e.ranks j r) : check9 e = some (j, r) :=
  find?_rectangle_of_firstBad2 (fun j r _ _ _ _ => twoClasses_iff e j r) h

theorem check9_of_none (h : NoneBad2 (RankMixed e) e.cols e.ranks) : check9 e = none :=
  find?_rectangle_of_noneBad2 (fun j r _ _ _ _ => twoClasses_iff e j r) h

theorem check10_of_first {r : Nat} (h : FirstBad (RankBare e) e.ranks r) : check10 e = some r :=
  find?_range_of_firstBad (fun r _ _ => bareRank_iff e r) h

theorem check10_of_none (h : NoneBad (RankBare e) e.ranks) : check10 e = none :=
  find?_range_of_noneBad (fun r _ _ => bareRank_iff e r) h

theorem check11_of_first {r : Nat} (h : FirstBad (RankDeep classes e) e.ranks r) : check11 classes e = some r :=
  find?_range_of_firstBad (fun _ _ _ => decide_eq_true_iff) h

theorem check11_of_none (h : NoneBad (RankDeep classes e) e.ranks) : check11 classes e = none :=
  find?_range_of_noneBad (fun _ _ _ => decide_eq_true_iff) h

/-- R11: where every column has a pattern number of the entry, there is a pattern. -/
theorem patterns_nonempty (hcols : 1 ≤ e.cols) (h : NoneBad (PatternAstray e) e.cols) : 1 ≤ e.patterns.length := by
  have := h 1 (Nat.le_refl 1) hcols
  unfold PatternAstray at this
  omega

end

/-- Settles O14: each stage of the checks is passed by the conditions up to it, and reports its own first offending item. -/
theorem catalogueChecksReportTheFirstFault : Obligations.CatalogueChecksReportTheFirstFault := by
  intro classes id e hwf first clean first2 clean2 onset pattern astray unused badCell mixed bare longest deep report
    ok1 ok2 ok3 ok4 ok5 ok6 ok7 ok8 ok9 ok10 ok11
  have hlen := onsets_length_of_wellFormed hwf
  have b1 := between_iff 1 9999 id
  have b2 := name_check_iff e
  have b3 := size_check_iff e
  have b5 := seat_check_iff e
  have b6 := threshold_check_iff e
  have p2 : ok2 → between 1 9999 id = true ∧ (between 1 16 e.name.length && e.name.all printable) = true :=
    fun h => ⟨b1.2 h.1, b2.2 h.2⟩
  have p3 : ok3 → (between 1 9999 id = true ∧ (between 1 16 e.name.length && e.name.all printable) = true)
      ∧ (between 1 48 e.cols && between 1 8 e.rows && between 1 4 e.ranks) = true := fun h => ⟨p2 h.1, b3.2 h.2⟩
  have p4 : ok4 → _ ∧ check4 e = none := fun h => ⟨p3 h.1, check4_of_none hlen h.2⟩
  have p5 : ok5 → _ ∧ (between 500 3800 e.seat && between 20 300 e.tol && decide (e.seat + e.tol + 50 ≤ 3995)) = true :=
    fun h => ⟨p4 h.1, b5.2 h.2⟩
  have p6 : ok6 → _ ∧ (between 1 200 e.slope && between 20 500 e.touch) = true := fun h => ⟨p5 h.1, b6.2 h.2⟩
  have hcols : ok6 → 1 ≤ e.cols := fun ⟨⟨⟨⟨_, h, _⟩, _⟩, _⟩, _⟩ => h
  have p7 : ok7 → _ ∧ check7Column e = none ∧ check7Pattern e = none ∧ between 1 8 e.patterns.length = true :=
    fun ⟨h6, hastray, hunused, h8⟩ => ⟨p6 h6, check7Column_of_none hastray, check7Pattern_of_none hunused,
      (between_iff _ _ _).2 ⟨patterns_nonempty (hcols h6) hastray, h8⟩⟩
  have p8 : ok8 → _ ∧ check8 classes e = none := fun h => ⟨p7 h.1, check8_of_none h.2⟩
  have p9 : ok9 → _ ∧ check9 e = none := fun h => ⟨p8 h.1, check9_of_none h.2⟩
  have p10 : ok10 → _ ∧ check10 e = none := fun h => ⟨p9 h.1, check10_of_none h.2⟩
  have p11 : ok11 → _ ∧ check11 classes e = none := fun h => ⟨p10 h.1, check11_of_none h.2⟩
  refine ⟨fun h1 => ?_, fun h1 h2 => ?_, fun h2 h3 => ?_, fun h3 r hr => ?_, fun h4 h5 => ?_, fun h5 h6 => ?_,
    fun h6 j hj => ?_, fun h6 hastray p hp => ?_, fun h6 hastray hunused h8 => ?_, fun h7 p i hpi => ?_,
    fun h8 j r hjr => ?_, fun h9 r hr => ?_, fun h10 r hr => ?_, fun h11 => ?_⟩
  · have f1 := mt b1.1 h1
    simp only [report, typeCheck, f1]
    rfl
  · have f2 := mt b2.1 (fun h => h2 ⟨h1, h⟩)
    simp only [report, typeCheck, b1.2 h1, f2]
    rfl
  · have f3 := mt b3.1 (fun h => h3 ⟨h2, h⟩)
    simp only [report, typeCheck, p2 h2, f3]
    rfl
  · simp only [report, typeCheck, p3 h3, check4_of_first hlen hr]
    rfl
  · have f5 := mt b5.1 (fun h => h5 ⟨h4, h⟩)
    simp only [report, typeCheck, p4 h4, f5]
    rfl
  · have f6 := mt b6.1 (fun h => h6 ⟨h5, h⟩)
    simp only [report, typeCheck, p5 h5, f6]
    rfl
  · simp only [report, typeCheck, p6 h6, check7Column_of_first hj]
    rfl
  · simp only [report, typeCheck, p6 h6, check7Column_of_none hastray, check7Pattern_of_first hp]
    rfl
  · have f7 : between 1 8 e.patterns.length = false := (between_eq_false_iff _ _ _).2 (by omega)
    simp only [report, typeCheck, p6 h6, check7Column_of_none hastray, check7Pattern_of_none hunused, f7]
    rfl
  · simp only [report, typeCheck, p7 h7, check8_of_first hpi]
    rfl
  · simp only [report, typeCheck, p8 h8, check9_of_first hjr]
    rfl
  · simp only [report, typeCheck, p9 h9, check10_of_first hr]
    rfl
  · simp only [report, typeCheck, p10 h10, check11_of_first hr]
    rfl
  · simp only [typeCheck, p11 h11]
    rfl

end Sys2Proof.Machine
end

section
/-! PROOFS. START taken: the press number, and what the press opens (R55, R94, R107, R138, R155). -/

namespace Sys2Proof.Machine

/-! ## The press number (R138) -/

/-- R138: the first numbers from a candidate on, in closed form: they rise, and 1 follows 65,535. -/
theorem pressAfter_iterate (n : Nat) {i : Nat} (hi : i ≤ 65535) : pressAfter^[i] n =
    if n ≤ 65535 then (if n + i ≤ 65535 then n + i else n + i - 65535) else if i = 0 then n else i := by
  induction i with
  | zero => simp only [Function.iterate_zero, id_eq]; split <;> simp; omega
  | succ i ih =>
    rw [Function.iterate_succ_apply', ih (by omega)]
    simp only [pressAfter, Config.maxPress]
    split <;> split <;> split <;> split <;> omega

/-- R138: the first 65,535 numbers from a candidate on are distinct. -/
theorem pressAfter_iterate_injective {n i j : Nat} (hi : i < 65535) (hj : j < 65535)
    (h : pressAfter^[i] n = pressAfter^[j] n) : i = j := by
  rw [pressAfter_iterate n (by omega), pressAfter_iterate n (by omega)] at h
  split at h
  · split at h <;> split at h <;> omega
  · split at h <;> split at h <;> omega

/-- A record of the list holds the number. -/
def PressTaken (rs : List Record) (n : Nat) : Prop := ∃ r ∈ rs, r.press = n

/-- R138: the search passes taken numbers alone, and stops at a free one or when its steps are spent. -/
theorem freePress_eq (rs : List Record) (fuel n : Nat) : ∃ k ≤ fuel, freePress rs fuel n = pressAfter^[k] n
    ∧ (∀ i < k, PressTaken rs (pressAfter^[i] n)) ∧ (k = fuel ∨ ¬ PressTaken rs (pressAfter^[k] n)) := by
  induction fuel generalizing n with
  | zero => exact ⟨0, Nat.le_refl 0, rfl, fun i hi => absurd hi (Nat.not_lt_zero i), .inl rfl⟩
  | succ fuel ih =>
    have htaken : rs.any (fun r => decide (r.press = n)) = true ↔ PressTaken rs n := by simp [PressTaken]
    by_cases hn : PressTaken rs n
    · obtain ⟨k, hk, heq, hpassed, hend⟩ := ih (pressAfter n)
      refine ⟨k + 1, by omega, ?_, fun i hi => ?_, ?_⟩
      · simp only [freePress, htaken.2 hn, if_true, heq, Function.iterate_succ_apply]
      · cases i with
        | zero => exact hn
        | succ i => exact hpassed i (by omega)
      · exact hend.imp (congrArg (· + 1)) id
    · exact ⟨0, Nat.zero_le _, by simp [freePress, mt htaken.1 hn], fun i hi => absurd hi (Nat.not_lt_zero i), .inr hn⟩

/-- R138: a store cannot hold more distinct numbers than records. -/
theorem exists_free_press {rs : List Record} (hroom : rs.length < 65535) (n : Nat) :
    ∃ i ≤ rs.length, ¬ PressTaken rs (pressAfter^[i] n) := by
  by_contra hall
  push Not at hall
  have hmaps : ∀ i ∈ Finset.range (rs.length + 1), pressAfter^[i] n ∈ (rs.map (·.press)).toFinset := fun i hi => by
    obtain ⟨r, hr, hpress⟩ := hall i (by have := Finset.mem_range.1 hi; omega)
    exact List.mem_toFinset.2 (List.mem_map.2 ⟨r, hr, hpress⟩)
  have hinj : Set.InjOn (fun i => pressAfter^[i] n) (Finset.range (rs.length + 1)) := fun i hi j hj h => by
    have hi := Finset.mem_range.1 hi
    have hj := Finset.mem_range.1 hj
    exact pressAfter_iterate_injective (by omega) (by omega) h
  have hcard := Finset.card_le_card_of_injOn _ hmaps hinj
  have hle := List.toFinset_card_le (rs.map (·.press))
  simp only [Finset.card_range, List.length_map] at hcard hle
  omega

/-- R138: the press number of the next START is the first free one from the next press number on. -/
theorem newPress_first_free {st : Store} (hroom : st.records.length < 65535) :
    ∃ k, st.newPress = pressAfter^[k] st.next ∧ ¬ PressTaken st.records st.newPress
      ∧ ∀ i < k, PressTaken st.records (pressAfter^[i] st.next) := by
  obtain ⟨k, hk, heq, hpassed, hend⟩ := freePress_eq st.records st.records.length st.next
  refine ⟨k, heq, ?_, hpassed⟩
  rw [Store.newPress, heq]
  refine hend.elim (fun hfuel => ?_) id
  obtain ⟨i, hi, hfree⟩ := exists_free_press hroom st.next
  have : i = k := by
    by_contra hne
    exact hfree (hpassed i (by omega))
  exact this ▸ hfree

/-! ## The checks of START pass (R54) -/

/-- R54: every check of START passes. -/
theorem startChecks_pass {s : State} {j : Job} {e : TypeEntry} {q : QualEntry} (hstroke : s.motion.stroke = .idle)
    (hguards : s.openSet = []) (hhead : s.head.status = .ready) (htare : s.head.tare = none)
    (hq : s.qualEntry j = some q) (hready : q.level = .q1 → ∀ p ∈ s.startMap j e, s.head.ready p = true)
    (hheld : ∀ r ∈ s.store.records, r.state ≠ .held) (hroom : s.store.records.length < 32) (hprog : j.startable = true) :
    startChecks s j e = none := by
  have hfree : s.store.records.any (fun r => decide (r.state = .held)) = false := by simpa using hheld
  have hfits : ¬ 32 ≤ s.store.records.length := by omega
  simp [startChecks, strokeRefusal, hstroke, hguards, hhead, htare, startChecksLate, hq, hfree, Config.storeCapacity, hfits,
    hprog]
  exact hready

/-- R54, R55: START of a PREPARED job whose checks pass opens the press and hands over its first step. -/
theorem serveStart_opens {l : Link} {tag : Nat} {s : State} {j : Job} {e : TypeEntry} {q : QualEntry} (hj : s.job = some j)
    (hrun : j.run = none) (he : tabGet s.cat.types j.typeId = some e) (hc : startChecks s j e = none)
    (hq : s.qualEntry j = some q) :
    serveStart l tag s = (handOver (openPress j e q s)).reply l tag .ok [.u16 s.store.newPress] := by
  simp [serveStart, hj, hrun, he, hc, hq]

/-! ## What START opens (R48, R55, R94, R107, R155) -/

/-- R48: the column map of an orientation. -/
theorem columnMap_eq (o : Orientation) (first cols : Nat) : columnMap o first cols = (List.range' 1 cols).map (fun c =>
    match o with
    | .normal => first + c - 1
    | .reversed => first + cols - c) := by
  cases o <;> rfl

/-- R155: the entry after START counts on, and begins anew at an audit. -/
theorem audit_entry (q : QualEntry) : (audit q).1 = { q with
    count := if q.level = .q2 then if q.count + 1 = q.interval then 0 else q.count + 1 else q.count } := by
  unfold audit
  split
  · split <;> rfl
  · rfl

/-- R155: the press is audited where the entry is Q2 and its count comes to the interval. -/
theorem audit_flag (q : QualEntry) : (audit q).2 = decide (q.level = .q2 ∧ q.count + 1 = q.interval) := by
  unfold audit
  split
  · next hl => split <;> simp_all
  · next hl => simp [hl]

/-- R20: a column's finger cap, absent for a column without pins. -/
theorem fingerCap_eq (classes : List (Nat × ClassEntry)) (e : TypeEntry) (c : Nat) : fingerCap classes e c =
    if columnPins e c = [] then none
    else some (min 19500 ((columnPins e c).map (fun pin => ((tabGet classes pin.cls).map (·.abort)).getD 0)).sum) := by
  simp only [fingerCap, columnPinCount, List.length_eq_zero_iff]
  rfl

/-- R55, R57, R73: a press opened and its oldest step handed over, in one state. -/
theorem handOver_openPress {s : State} {j : Job} {e : TypeEntry} {q : QualEntry} {rec : StepRecord} {rest : List StepRecord}
    (hqueue : j.queue = rec :: rest) : handOver (openPress j e q s) = { s with
      store := { next := pressAfter s.store.newPress, records := s.store.records ++ [newRecord s j e q s.store.newPress] }
      qual := { s.qual with table := tabPut s.qual.table (qualKey j.typeId (s.head.kind.getD 0)) (audit q).1 }
      profile := s.profile.start s.store.newPress j.typeId e.cols (s.startMap j e)
      monitor := Monitor.handOver { phase := .watching, limits := some (loadLimits s.store.newPress (takeCopy s.cat.classes e))
                                    ramCap := none, knee := none, seat := none } rec.body
      job := some { j with
        queue := rest
        run := some { newRun s.store.newPress (s.startMap j e) with
          handed := 1, inHand := some (takeInHand s.head.width s.motion.position 0 rec) } }
      motion := { s.motion with stroke := .running, commanded := commandOf s.head.width s.motion.position rec.body } } := by
  simp [handOver, openPress, hqueue, newRun, newRecord, Motion.position]

/-- Settles O33: under the statement's conditions every check passes, and the press that opens is the one it spells out. -/
theorem startOpensThePress : Obligations.StartOpensThePress := by
  intro h j e q o kind w rec rest s ha hj hrun he hstroke hguards hhead htare ho hkind hw hq hqueue map hready hheld hroom
    hprog press copy fieldOf cap longest audited speed after taken
  refine ⟨newPress_first_free (by omega), ?_⟩
  have hstartable : j.startable = true := by
    unfold Job.startable
    split
    · next hmode => simpa using hprog hmode
    · simp [hqueue]
  have hmap : (heard h s).startMap j e = map := by
    simp only [State.startMap, heard_head, ho, Option.getD_some, columnMap_eq]
    rfl
  have hentry : (heard h s).qualEntry j = some q := by simpa [State.qualEntry, hkind] using hq
  have hchecks : startChecks (heard h s) j e = none :=
    startChecks_pass (by simpa using hstroke) (by simpa [State.openSet] using hguards) (by simpa using hhead)
      (by simpa using htare) hentry (by simpa [hmap] using hready) (by simpa using hheld) (by simpa using hroom) hstartable
  have hcaps : fingerCap (takeCopy s.cat.classes e).classes (takeCopy s.cat.classes e).entry = cap :=
    funext (fun c => fingerCap_eq _ _ c)
  have hserve : exec (.start h) s = done (serveStart h.link h.tag (heard h s)) := exec_of_admitted rfl ha
  rw [hserve, serveStart_opens (by simpa using hj) hrun (by simpa using he) hchecks hentry, handOver_openPress hqueue]
  simp only [answered, done, newRecord, hmap, heard_store, heard_qual, heard_head, heard_cat, heard_profile, heard_motion,
    ho, hkind, hw, Option.getD_some, audit_entry, audit_flag, loadLimits, hcaps]
  rfl

end Sys2Proof.Machine
end

section
/-! PROOFS. Power-on and RESTART bring every block to its starting state, and that state meets every invariant. -/

namespace Sys2Proof.Machine

/-! ## POWER_ON (R2) -/

/-- R177, R179: a link after a reset has nothing to send, so its arbiter leaves it. -/
theorem arbitrate_reset (mask : List NoticeKind) : arbitrate (LinkState.reset mask) = LinkState.reset mask := rfl

/-- R2: power-on leaves the state of a reset, with the commands that wait. -/
theorem exec_powerOn (s : State) : exec .powerOn s = .next { State.reset with pending := s.pending } := rfl

/-- R164, R165: after a reset every guard input is in the open-guard set. -/
theorem openSet_reset : Guards.reset.openSet = [1, 2, 3, 4, 5, 6, 7, 8] := by decide

/-! ## RESTART (R182) -/

theorem exec_restart_of_admitted {h : Header} {s : State} (ha : admitted h .restart s = true) :
    exec (.restart h) s = done (serveRestart h.link h.tag (heard h s)) := exec_of_admitted rfl ha

/-- R174: RESTART is taken on the cell link alone. -/
theorem cell_of_restart_admitted {h : Header} {s : State} (ha : admitted h .restart s = true) : h.link = .cell := by
  simp only [admitted, Bool.and_eq_true] at ha
  obtain ⟨⟨_, hp⟩, _⟩ := ha
  cases hl : h.link with
  | cell => rfl
  | line => simp [hl, permitted, requestCode] at hp

/-- R182: the states in which the ram moves or may move. -/
theorem restartBusy_iff (m : Motion) : restartBusy m = true ↔
    m.stroke = .homing ∨ m.stroke = .running ∨ m.stroke = .stopping ∨ m.stroke = .retracting ∨ m.ramp.output ≠ 0 := by
  simp only [restartBusy, Bool.or_eq_true, decide_eq_true_eq, or_assoc]

/-- R42: the replies after a tare in progress has been ended. -/
theorem abortTare_cell (s : State) : (abortTare s).cell = { s.cell with
    replies := s.cell.replies
      ++ (s.head.tare.map (fun t => ({ tag := t.tag, status := .headNotReady, body := [] } : Reply))).toList } := by
  unfold abortTare
  cases ht : s.head.tare with
  | none => simp
  | some t => rfl

/-- R42: the end of a tare leaves what RESTART keeps beside the cell link. -/
theorem abortTare_keeps (s : State) :
    (abortTare s).pending = s.pending ∧ (abortTare s).line = s.line ∧ (abortTare s).motion = s.motion := by
  unfold abortTare
  cases s.head.tare <;> exact ⟨rfl, rfl, rfl⟩

/-- R182: what RESTART, taken on the cell link, leaves. -/
theorem restart_on_cell (tag : Nat) (s : State) : resetBlocks ((abortTare s).reply .cell tag .ok []) = { State.reset with
    pending := s.pending
    cell := { LinkState.reset NoticeKind.all with
      tx := s.cell.tx
      replies := s.cell.replies
        ++ (s.head.tare.map (fun t => ({ tag := t.tag, status := .headNotReady, body := [] } : Reply))).toList
        ++ [{ tag := tag, status := .ok, body := [] }] }
    line := { LinkState.reset NoticeKind.lineDefault with tx := s.line.tx, replies := s.line.replies }
    motion := { Motion.reset with
      enc := s.motion.enc, zero := s.motion.enc, recent := s.motion.recent, driveReady := s.motion.driveReady
      faultInput := s.motion.faultInput } } := by
  obtain ⟨hpending, hline, hmotion⟩ := abortTare_keeps s
  simp [resetBlocks, State.reply, State.onLink, LinkState.restart, Motion.restart, abortTare_cell, hpending, hline, hmotion]

/-- Settles O2: power-on by the reset state itself, RESTART by what it keeps of it. -/
theorem resetsBringEveryBlockBack : Obligations.ResetsBringEveryBlockBack := by
  refine ⟨fun s => ⟨_, exec_powerOn s, ?_⟩, fun h s ha => ?_⟩
  · refine ⟨rfl, rfl, rfl, rfl, rfl, rfl, rfl, rfl, rfl, rfl, rfl, rfl, rfl, rfl, rfl, rfl, rfl, rfl, rfl, rfl, rfl, rfl, rfl,
      rfl, rfl, rfl, rfl, rfl, rfl, rfl, rfl, rfl, rfl, rfl, rfl, rfl, rfl, rfl, rfl, rfl, rfl, rfl, rfl, openSet_reset, rfl, rfl,
      fun l => ?_, rfl, rfl⟩
    cases l <;> exact ⟨rfl, rfl, rfl, rfl⟩
  · rw [exec_restart_of_admitted ha]
    refine ⟨fun hbusy => ?_, fun hstroke hramp => ?_⟩
    · have hb : restartBusy (heard h s).motion = true := by simpa using (restartBusy_iff s.motion).2 hbusy
      simp only [serveRestart, hb, if_true]
      rfl
    · have hb : restartBusy (heard h s).motion = false := by
        rw [heard_motion, ← Bool.not_eq_true, restartBusy_iff]
        rcases hstroke with h | h | h | h <;> simp [h, hramp]
      obtain ⟨link, tag, len⟩ := h
      obtain rfl : link = .cell := cell_of_restart_admitted ha
      simp only [serveRestart, hb, restart_on_cell]
      rfl

/-! ## The reset state meets the invariants -/

theorem motionSound_reset : MotionSound State.reset where
  speed := by decide
  guards := by decide
  drive := by decide
  hand := by decide
  ended := fun r hr => by cases hr
  course := by decide
  follows := fun v hv => by cases hv; exact .inl ⟨Int.le_refl 0, Int.le_refl 0⟩
  falls := fun rate v hv => by cases hv

theorem tablesSound_reset : TablesSound State.reset := tablesSound_of_empty rfl rfl rfl

theorem profileSound_reset : ProfileSound State.reset where
  channels := fun c hc => by cases hc
  deepest := fun d hd => by cases hd
  leading := fun l hl => by cases hl

/-- R179: a link after a reset has no notice pending. -/
theorem noticesSound_reset (mask : List NoticeKind) : NoticesSound (LinkState.reset mask) where
  distinct := List.nodup_nil
  masked := fun p hp => by cases hp
  counts := fun p hp => by cases hp

theorem linksSound_reset : LinksSound State.reset where
  cell := noticesSound_reset _
  line := noticesSound_reset _
  cellReplies := by decide
  lineReplies := by decide

/-- R151: an empty store with a first press number in range. -/
theorem storeSound_reset : StoreSound State.reset where
  capacity := by decide
  distinct := List.nodup_nil
  range := fun r hr => by cases hr
  next := by decide
  oneOpen := by decide
  openRuns := fun ⟨r, hr, _⟩ => by cases hr
  held := rfl
  oneHeld := by decide
  heldStops := fun _ => rfl

/-- R24: the empty form of a position entry. -/
theorem entrySound_blank : EntrySound PosEntry.blank where
  present := by decide
  serial := rfl
  conflicting := by decide
  bare := by decide
  offset := by decide
  latest := fun v hv => by cases hv

/-- R45: a detached head with empty tables. -/
theorem headSound_reset : HeadSound Head.reset where
  table := ⟨rfl, fun e he => (List.eq_of_mem_replicate he) ▸ entrySound_blank⟩
  bad := by decide
  unused := fun l h1 h4 _ => by interval_cases l <;> rfl
  failed := fun l hl => by cases hl
  width := by decide
  lanes := by decide
  attempt := by decide
  stage := by decide
  answers := fun _ => rfl
  kinds := fun k hk => by rcases hk with hk | hk <;> cases hk
  named := by decide
  done := by decide
  ready := by decide
  tare := fun t ht => by cases ht

theorem guardsSound_reset : GuardsSound Guards.reset where
  kinds := rfl
  states := rfl
  first := by decide
  marks := fun i hi => by rcases hi with hi | hi <;> cases hi

theorem jobSound_reset : JobSound State.reset where
  sizes := fun j hj => by cases hj
  prepared := fun j hj => by cases hj
  handed := fun j r hj => by cases hj
  ended := fun j r hj => by cases hj
  begun := fun j hj => by cases hj
  index := fun r h hr => by cases hr
  goes := fun r hr => by cases hr
  paused := fun hp => by cases hp
  underrun := fun r hr => by cases hr

theorem monitorSound_reset : MonitorSound State.reset where
  inactive := by decide
  limits := rfl
  watching := fun hp => by cases hp
  pressing := ⟨fun hp => (by cases hp), fun ⟨h, hh, _⟩ => by cases hh⟩
  cap := fun hp => by cases hp
  settled := fun r hr => by cases hr
  seat := rfl
  complete := fun r hr => by cases hr
  binning := fun hb => by cases hb
  channels := fun r hr => by cases hr

/-- Settles O3, invariant by invariant. -/
theorem resetMeetsTheInvariants : Obligations.ResetMeetsTheInvariants :=
  ⟨motionSound_reset, tablesSound_reset, profileSound_reset, linksSound_reset, fun _ => ⟨rfl, rfl⟩, fun _ => ⟨rfl, rfl⟩,
    storeSound_reset, headSound_reset, guardsSound_reset, jobSound_reset, monitorSound_reset⟩

end Sys2Proof.Machine
end

section
/-! PROOFS. What leaves the head and the guard unit alone: how a program runs and ends, a sample is used, a request of another
block is served. -/

namespace Sys2Proof.Machine

/-! ## Programs, stops and drive faults -/

@[simp] theorem handOver_head_guards (s : State) : (handOver s).head = s.head ∧ (handOver s).guards = s.guards := by
  unfold handOver
  split
  · simp
  · split <;> simp

@[simp] theorem endProgram_head_guards (c : EndCause) (s : State) :
    (endProgram c s).head = s.head ∧ (endProgram c s).guards = s.guards := ⟨rfl, rfl⟩

@[simp] theorem markRest_head_guards (s : State) : (markRest s).head = s.head ∧ (markRest s).guards = s.guards := ⟨rfl, rfl⟩

@[simp] theorem beginStop_head_guards (c : StopCause) (rate : Nat) (drop : Bool) (f : FollowOn) (s : State) :
    (beginStop c rate drop f s).head = s.head ∧ (beginStop c rate drop f s).guards = s.guards := ⟨rfl, rfl⟩

@[simp] theorem dropStop_head_guards (s : State) : (dropStop s).head = s.head ∧ (dropStop s).guards = s.guards := ⟨rfl, rfl⟩

@[simp] theorem endHoming_head_guards (r : HomingResult) (drop : Bool) (s : State) :
    (endHoming r drop s).head = s.head ∧ (endHoming r drop s).guards = s.guards := ⟨rfl, rfl⟩

@[simp] theorem takeFollowOn_head_guards (s : State) :
    (takeFollowOn s).head = s.head ∧ (takeFollowOn s).guards = s.guards := by
  unfold takeFollowOn
  split
  · simp
  · split
    · simp
    · simp
    · split <;> simp

@[simp] theorem continueProgram_head_guards (last : Bool) (s : State) :
    (continueProgram last s).head = s.head ∧ (continueProgram last s).guards = s.guards := by
  unfold continueProgram
  split
  · simp
  · split
    · simp
    · split <;> simp

@[simp] theorem closeStep_head_guards (r : Run) (h : InHand) (c : EndCause) (stop : Int) (s : State) :
    (closeStep r h c stop s).head = s.head ∧ (closeStep r h c stop s).guards = s.guards := by
  simp only [closeStep]
  split <;> simp [pressEnded]

@[simp] theorem endStep_head_guards (c : EndCause) (stop : Int) (drop : Bool) (s : State) :
    (endStep c stop drop s).head = s.head ∧ (endStep c stop drop s).guards = s.guards := by
  simp only [endStep]
  split
  · split
    · simp
    · split <;> simp
  · simp

@[simp] theorem endPaused_head_guards (c : EndCause) (drop : Bool) (s : State) :
    (endPaused c drop s).head = s.head ∧ (endPaused c drop s).guards = s.guards := by
  simp only [endPaused]
  split
  · simp
  · split <;> simp

@[simp] theorem interrupt_head_guards (c : EndCause) (drop : Bool) (s : State) :
    (interrupt c drop s).head = s.head ∧ (interrupt c drop s).guards = s.guards := by
  unfold interrupt
  split
  · simp
  · split <;> simp

@[simp] theorem driveFault_head_guards (src : FaultSource) (s : State) :
    (driveFault src s).head = s.head ∧ (driveFault src s).guards = s.guards := by
  simp only [driveFault]
  split
  · simp
  · simp [apply_ite State.head, apply_ite State.guards]

@[simp] theorem guardEntry_head_guards (k : GuardKind) (s : State) :
    (guardEntry k s).head = s.head ∧ (guardEntry k s).guards = s.guards := by
  simp only [guardEntry]
  split
  case h_6 => split <;> simp
  all_goals simp

@[simp] theorem sensingLost_head_guards (s : State) : (sensingLost s).head = s.head ∧ (sensingLost s).guards = s.guards := by
  unfold sensingLost
  split <;> simp

@[simp] theorem leaveReady_head_guards (s : State) : (leaveReady s).head = s.head ∧ (leaveReady s).guards = s.guards := by
  simp [leaveReady]

@[simp] theorem abortTare_guards (s : State) : (abortTare s).guards = s.guards := by
  unfold abortTare
  split <;> simp

/-! ## Samples -/

@[simp] theorem raisePeaks_head_guards (value : Nat) (s : State) :
    (raisePeaks value s).head = s.head ∧ (raisePeaks value s).guards = s.guards := by
  unfold raisePeaks
  split <;> simp

@[simp] theorem takeTouch_head_guards (a b : Nat) (position : Int) (value : Nat) (suspect : Bool) (s : State) :
    (takeTouch a b position value suspect s).head = s.head ∧ (takeTouch a b position value suspect s).guards = s.guards := by
  simp only [takeTouch]
  split <;> simp

@[simp] theorem takeKnee_head_guards (lim : Limits) (k : Nat) (position : Int) (s : State) :
    (takeKnee lim k position s).head = s.head ∧ (takeKnee lim k position s).guards = s.guards := by
  simp only [takeKnee, endStep_head_guards]
  split <;> simp

@[simp] theorem ramTests_head_guards (position : Int) (value : Nat) (completed : List Completion) (s : State) :
    (ramTests position value completed s).head = s.head ∧ (ramTests position value completed s).guards = s.guards := by
  unfold ramTests
  split
  · split
    · simp
    · split
      · simp
      · split <;> simp
  · simp

@[simp] theorem useRamSample_head_guards (position : Int) (value : Nat) (suspect : Bool) (s : State) :
    (useRamSample position value suspect s).head = s.head ∧ (useRamSample position value suspect s).guards = s.guards := by
  simp only [useRamSample]
  split
  · split <;> simp
  · split <;> simp

/-- R158, R166: of the head and the guards, a ram sample changes the time the open-guard set has stood non-empty. -/
theorem takeRamSample_head_guards (raw enc : Int) (s : State) :
    (takeRamSample raw enc s).head = s.head ∧ (takeRamSample raw enc s).guards = (tick s).guards := by
  simp only [takeRamSample]
  split <;> simp [tick]

@[simp] theorem useFinger_head_guards (r : Run) (finger : List (Nat × FingerSample)) (s : State) :
    (useFinger r finger s).head = s.head ∧ (useFinger r finger s).guards = s.guards := by
  simp only [useFinger]
  have hbin : ∀ p : Profile, (if r.fingersGone then s else { s with profile := p }).head = s.head
      ∧ (if r.fingersGone then s else { s with profile := p }).guards = s.guards := fun p => by split <;> simp
  split
  · split <;> simp [hbin]
  · exact hbin _

@[simp] theorem positionFailed_head_guards (p : Nat) (s : State) :
    (positionFailed p s).head = s.head ∧ (positionFailed p s).guards = s.guards := by
  unfold positionFailed
  split <;> simp

/-! ## The ends of steps that the motion block sees, the hold, the rest report -/

@[simp] theorem rest_head_guards (enc : Int) (s : State) : (s.rest enc).head = s.head ∧ (s.rest enc).guards = s.guards :=
  ⟨rfl, rfl⟩

@[simp] theorem takeMoveReached_head_guards (s : State) :
    (takeMoveReached s).head = s.head ∧ (takeMoveReached s).guards = s.guards := by
  unfold takeMoveReached
  split
  · split <;> simp
  · simp

@[simp] theorem takeProbeArrival_head_guards (s : State) :
    (takeProbeArrival s).head = s.head ∧ (takeProbeArrival s).guards = s.guards := by
  unfold takeProbeArrival
  split
  · split <;> simp
  · simp

@[simp] theorem takeStall_head_guards (s : State) : (takeStall s).head = s.head ∧ (takeStall s).guards = s.guards := by
  unfold takeStall
  split
  · simp
  · split <;> simp

@[simp] theorem takeTravelLimit_head_guards (s : State) :
    (takeTravelLimit s).head = s.head ∧ (takeTravelLimit s).guards = s.guards := by
  unfold takeTravelLimit
  split <;> simp

@[simp] theorem takeRetractReached_head_guards (s : State) :
    (takeRetractReached s).head = s.head ∧ (takeRetractReached s).guards = s.guards := by
  unfold takeRetractReached
  split <;> simp

@[simp] theorem expireHold_head_guards (r : Record) (s : State) :
    (expireHold r s).head = s.head ∧ (expireHold r s).guards = s.guards := by
  simp only [expireHold]
  split <;> simp

@[simp] theorem takeRestReport_head_guards (s : State) :
    (takeRestReport s).head = s.head ∧ (takeRestReport s).guards = s.guards := by
  unfold takeRestReport announce
  split
  · simp only [raise_head, raise_guards]
    split <;> simp [dropJob]
  · simp [dropJob]

/-! ## Requests of other blocks -/

@[simp] theorem serveMask_head_guards (l : Link) (tag operation kinds : Nat) (s : State) :
    (serveMask l tag operation kinds s).head = s.head ∧ (serveMask l tag operation kinds s).guards = s.guards := by
  unfold serveMask
  split
  · simp
  · split <;> simp
  · simp

@[simp] theorem serveClassPut_head_guards (l : Link) (tag n : Nat) (e : ClassEntry) (s : State) :
    (serveClassPut l tag n e s).head = s.head ∧ (serveClassPut l tag n e s).guards = s.guards := by
  simp only [serveClassPut]
  repeat' split
  all_goals simp

@[simp] theorem serveClassDrop_head_guards (l : Link) (tag n : Nat) (s : State) :
    (serveClassDrop l tag n s).head = s.head ∧ (serveClassDrop l tag n s).guards = s.guards := by
  unfold serveClassDrop
  repeat' split
  all_goals simp

@[simp] theorem serveClassGet_head_guards (l : Link) (tag n : Nat) (s : State) :
    (serveClassGet l tag n s).head = s.head ∧ (serveClassGet l tag n s).guards = s.guards := by
  unfold serveClassGet
  repeat' split
  all_goals simp

@[simp] theorem serveCataloguePut_head_guards (l : Link) (tag id : Nat) (e : TypeEntry) (s : State) :
    (serveCataloguePut l tag id e s).head = s.head ∧ (serveCataloguePut l tag id e s).guards = s.guards := by
  simp only [serveCataloguePut]
  repeat' split
  all_goals simp

@[simp] theorem serveCatalogueDrop_head_guards (l : Link) (tag id : Nat) (s : State) :
    (serveCatalogueDrop l tag id s).head = s.head ∧ (serveCatalogueDrop l tag id s).guards = s.guards := by
  unfold serveCatalogueDrop
  repeat' split
  all_goals simp

@[simp] theorem serveCatalogueGet_head_guards (l : Link) (tag id : Nat) (s : State) :
    (serveCatalogueGet l tag id s).head = s.head ∧ (serveCatalogueGet l tag id s).guards = s.guards := by
  unfold serveCatalogueGet
  repeat' split
  all_goals simp

@[simp] theorem serveJob_head_guards (l : Link) (tag typeId first : Nat) (serial : List Nat) (mode : Nat) (s : State) :
    (serveJob l tag typeId first serial mode s).head = s.head
      ∧ (serveJob l tag typeId first serial mode s).guards = s.guards := by
  unfold serveJob
  repeat' split
  all_goals simp

@[simp] theorem acceptStep_head_guards (j : Job) (rec : StepRecord) (next : Grammar) (s : State) :
    (acceptStep j rec next s).head = s.head ∧ (acceptStep j rec next s).guards = s.guards := by
  simp only [acceptStep]
  split <;> simp

@[simp] theorem serveStep_head_guards (l : Link) (tag : Nat) (offer : StepOffer) (last : Nat) (s : State) :
    (serveStep l tag offer last s).head = s.head ∧ (serveStep l tag offer last s).guards = s.guards := by
  simp only [serveStep]
  repeat' split
  all_goals simp

@[simp] theorem serveStepFlush_head_guards (l : Link) (tag : Nat) (s : State) :
    (serveStepFlush l tag s).head = s.head ∧ (serveStepFlush l tag s).guards = s.guards := by
  unfold serveStepFlush
  repeat' split
  all_goals simp

@[simp] theorem serveStart_head_guards (l : Link) (tag : Nat) (s : State) :
    (serveStart l tag s).head = s.head ∧ (serveStart l tag s).guards = s.guards := by
  unfold serveStart
  repeat' split
  all_goals simp [openPress]

@[simp] theorem stopJob_head_guards (s : State) : (stopJob s).head = s.head ∧ (stopJob s).guards = s.guards := by
  unfold stopJob
  repeat' split
  all_goals simp

@[simp] theorem serveStop_head_guards (l : Link) (tag : Nat) (s : State) :
    (serveStop l tag s).head = s.head ∧ (serveStop l tag s).guards = s.guards := by
  simp only [serveStop, takeStop, reply_head, reply_guards]
  split <;> simp

@[simp] theorem serveHome_head_guards (closed : Bool) (l : Link) (tag : Nat) (s : State) :
    (serveHome closed l tag s).head = s.head ∧ (serveHome closed l tag s).guards = s.guards := by
  unfold serveHome
  split <;> simp

@[simp] theorem serveRetract_head_guards (l : Link) (tag : Nat) (s : State) :
    (serveRetract l tag s).head = s.head ∧ (serveRetract l tag s).guards = s.guards := by
  unfold serveRetract
  repeat' split
  all_goals simp

@[simp] theorem serveClearFault_head_guards (l : Link) (tag : Nat) (s : State) :
    (serveClearFault l tag s).head = s.head ∧ (serveClearFault l tag s).guards = s.guards := by
  unfold serveClearFault
  split <;> simp

@[simp] theorem serveProfileRead_head_guards (l : Link) (tag ch first count : Nat) (s : State) :
    (serveProfileRead l tag ch first count s).head = s.head ∧ (serveProfileRead l tag ch first count s).guards = s.guards := by
  unfold serveProfileRead
  repeat' split
  all_goals simp

@[simp] theorem serveResultSummary_head_guards (l : Link) (tag press first : Nat) (s : State) :
    (serveResultSummary l tag press first s).head = s.head ∧ (serveResultSummary l tag press first s).guards = s.guards := by
  unfold serveResultSummary
  repeat' split
  all_goals simp

@[simp] theorem serveResultColumn_head_guards (l : Link) (tag press column : Nat) (s : State) :
    (serveResultColumn l tag press column s).head = s.head ∧ (serveResultColumn l tag press column s).guards = s.guards := by
  unfold serveResultColumn
  repeat' split
  all_goals simp

@[simp] theorem serveResultPins_head_guards (l : Link) (tag press column : Nat) (s : State) :
    (serveResultPins l tag press column s).head = s.head ∧ (serveResultPins l tag press column s).guards = s.guards := by
  unfold serveResultPins
  split <;> simp

@[simp] theorem serveResultRelease_head_guards (l : Link) (tag press : Nat) (s : State) :
    (serveResultRelease l tag press s).head = s.head ∧ (serveResultRelease l tag press s).guards = s.guards := by
  unfold serveResultRelease
  repeat' split
  all_goals simp

@[simp] theorem qualifyAs_head_guards (l : Link) (tag key interval : Nat) (level : Option Level) (s : State) :
    (qualifyAs l tag key interval level s).head = s.head ∧ (qualifyAs l tag key interval level s).guards = s.guards := by
  unfold qualifyAs
  repeat' split
  all_goals simp [qualifyReply, State.onQuals]

@[simp] theorem serveQualify_head_guards (l : Link) (tag typeId headKind level interval : Nat) (s : State) :
    (serveQualify l tag typeId headKind level interval s).head = s.head
      ∧ (serveQualify l tag typeId headKind level interval s).guards = s.guards := by
  unfold serveQualify
  repeat' split
  all_goals simp

@[simp] theorem serveQualifyGet_head_guards (l : Link) (tag typeId headKind : Nat) (s : State) :
    (serveQualifyGet l tag typeId headKind s).head = s.head ∧ (serveQualifyGet l tag typeId headKind s).guards = s.guards := by
  unfold serveQualifyGet
  repeat' split
  all_goals simp

@[simp] theorem serveDispose_head_guards (l : Link) (tag press outcome operator : Nat) (s : State) :
    (serveDispose l tag press outcome operator s).head = s.head
      ∧ (serveDispose l tag press outcome operator s).guards = s.guards := by
  unfold serveDispose
  repeat' split
  all_goals simp

@[simp] theorem serveHoldTime_head_guards (l : Link) (tag seconds : Nat) (s : State) :
    (serveHoldTime l tag seconds s).head = s.head ∧ (serveHoldTime l tag seconds s).guards = s.guards := by
  unfold serveHoldTime
  repeat' split
  all_goals simp

end Sys2Proof.Machine
end

section
/-! PROOFS. The position table of the head, the slots and raw samples of its lanes, and what the frames of an instant make of it
(R28, R33, R35, R36, R41). -/

namespace Sys2Proof.Machine

/-! ## The position table (R33) -/

/-- The entry of a listed position. -/
theorem entry_of_getElem? {h : Head} {p : Nat} {e : PosEntry} (hp : 1 ≤ p) (he : h.table[p - 1]? = some e) : h.entry p = e := by
  simp [Head.entry, show p ≠ 0 by omega, List.getD_eq_getElem?_getD, he]

/-- The position table with the entry of one position changed. -/
def editEntry (p : Nat) (f : PosEntry → PosEntry) (t : List PosEntry) : List PosEntry :=
  if p = 0 then t else t.modify (p - 1) f

/-- An entry changed leaves the rest of the head. -/
theorem onEntry_eq (h : Head) (p : Nat) (f : PosEntry → PosEntry) :
    h.onEntry p f = { h with table := editEntry p f h.table } := by
  unfold Head.onEntry editEntry
  split <;> rfl

@[simp] theorem length_editEntry (p : Nat) (f : PosEntry → PosEntry) (t : List PosEntry) :
    (editEntry p f t).length = t.length := by
  unfold editEntry
  split <;> simp

/-- The entry of the changed position. -/
theorem editEntry_self (t : List PosEntry) {p : Nat} (f : PosEntry → PosEntry) (hp : 1 ≤ p) :
    (editEntry p f t)[p - 1]? = (t[p - 1]?).map f := by
  simp [editEntry, show p ≠ 0 by omega]

/-- The other entries. -/
theorem editEntry_other (t : List PosEntry) {p q : Nat} (f : PosEntry → PosEntry) (hq : 1 ≤ q) (hne : p ≠ q) :
    (editEntry p f t)[q - 1]? = t[q - 1]? := by
  unfold editEntry
  split
  · rfl
  · simp [show p - 1 ≠ q - 1 by omega]

/-- The position table with entries changed one after another, each at its own position. -/
def editEntries {α : Type} (pos : α → Nat) (f : α → PosEntry → PosEntry) (l : List α) (t : List PosEntry) : List PosEntry :=
  l.foldl (fun t x => editEntry (pos x) (f x) t) t

section
variable {α : Type} {pos : α → Nat} {f : α → PosEntry → PosEntry}

/-- Entries changed one after another leave the rest of the head. -/
theorem foldl_onEntry (l : List α) (h : Head) :
    l.foldl (fun h x => h.onEntry (pos x) (f x)) h = { h with table := editEntries pos f l h.table } := by
  induction l generalizing h with
  | nil => rfl
  | cons x l ih => rw [List.foldl_cons, ih, onEntry_eq]; rfl

@[simp] theorem length_editEntries (l : List α) (t : List PosEntry) : (editEntries pos f l t).length = t.length := by
  induction l generalizing t with
  | nil => rfl
  | cons x l ih => exact (ih _).trans (length_editEntry _ _ t)

/-- A position that none of the changes is for. -/
theorem editEntries_other {l : List α} (t : List PosEntry) {p : Nat} (hp : 1 ≤ p) (hl : ∀ x ∈ l, pos x ≠ p) :
    (editEntries pos f l t)[p - 1]? = t[p - 1]? := by
  induction l generalizing t with
  | nil => rfl
  | cons x l ih =>
    exact (ih _ fun y hy => hl y (List.mem_cons_of_mem x hy)).trans (editEntry_other t _ hp (hl x List.mem_cons_self))

/-- The position of the one change that is for it. -/
theorem editEntries_self {l : List α} (t : List PosEntry) (hl : (l.map pos).Nodup) {x : α} (hx : x ∈ l) (hp : 1 ≤ pos x) :
    (editEntries pos f l t)[pos x - 1]? = (t[pos x - 1]?).map (f x) := by
  induction l generalizing t with
  | nil => cases hx
  | cons y l ih =>
    obtain ⟨hy, hl⟩ := List.nodup_cons.1 hl
    rcases List.mem_cons.1 hx with rfl | hx
    · exact (editEntries_other _ hp fun z hz heq => hy (heq ▸ List.mem_map_of_mem hz)).trans (editEntry_self t _ hp)
    · have hne : pos y ≠ pos x := fun heq => hy (heq ▸ List.mem_map_of_mem hx)
      exact (ih _ hl hx).trans (by rw [editEntry_other t _ hp hne])

/-- The entries after the changes: old ones, and changed ones of the positions named. -/
theorem mem_editEntries {l : List α} {t : List PosEntry} {e : PosEntry} (hl : (l.map pos).Nodup)
    (he : e ∈ editEntries pos f l t) :
    e ∈ t ∨ ∃ x ∈ l, ∃ e', 1 ≤ pos x ∧ t[pos x - 1]? = some e' ∧ e = f x e' := by
  obtain ⟨i, hi⟩ := List.mem_iff_getElem?.1 he
  by_cases hx : ∃ x ∈ l, pos x = i + 1
  · obtain ⟨x, hx, hpos⟩ := hx
    have hself := editEntries_self (f := f) t hl hx (by omega)
    simp only [hpos, Nat.add_sub_cancel, hi] at hself
    obtain ⟨e', he', heq⟩ := Option.map_eq_some_iff.1 hself.symm
    exact .inr ⟨x, hx, e', by omega, by simpa [hpos] using he', heq.symm⟩
  · have hother := editEntries_other (f := f) t (p := i + 1) (by omega) fun x hm heq => hx ⟨x, hm, heq⟩
    simp only [Nat.add_sub_cancel, hi] at hother
    exact .inl (List.mem_of_getElem? hother.symm)

/-- A change that keeps the status of an entry keeps that of every position. -/
theorem status_editEntry {h : Head} (p q : Nat) {f : PosEntry → PosEntry} (hf : ∀ e, (f e).status = e.status) :
    (Head.entry { h with table := editEntry p f h.table } q).status = (h.entry q).status := by
  by_cases hq : q = 0
  · simp [Head.entry, hq]
  · simp only [Head.entry, hq, if_false, List.getD_eq_getElem?_getD]
    by_cases hpq : p = q
    · subst hpq
      rw [editEntry_self _ f (by omega)]
      cases h.table[p - 1]? <;> simp [hf]
    · rw [editEntry_other _ f (by omega) hpq]

theorem status_editEntries (l : List α) (h : Head) (q : Nat) (hf : ∀ x e, (f x e).status = e.status) :
    (Head.entry { h with table := editEntries pos f l h.table } q).status = (h.entry q).status := by
  induction l generalizing h with
  | nil => rfl
  | cons x l ih =>
    exact (ih { h with table := editEntry (pos x) (f x) h.table }).trans (status_editEntry (pos x) q (hf x))

end

/-! ## Slots and raw samples (R28, R35) -/

/-- R28, R35: the positions a lane carries. -/
theorem mem_slots {h : Head} {w : Width} (hw : h.width = some w) (lane p : Nat) : p ∈ h.slots lane ↔
    (1 ≤ p ∧ p ≤ 48 ∧ (h.entry p).status = .present) ∧ h.lanes.getD ((p - 1) / (48 / widthLanes w)) 0 = lane := by
  have hrange : p ∈ List.range' 1 48 ↔ 1 ≤ p ∧ p ≤ 48 := by simp [List.mem_range'_1]; omega
  rw [show h.lanes.getD ((p - 1) / (48 / widthLanes w)) 0 = laneOf w h.lanes p from rfl]
  simp only [Head.slots, hw, allPositions, Config.positions, List.mem_filter, hrange, Bool.and_eq_true, decide_eq_true_eq]
  tauto

/-- R35: a lane carries present positions alone. -/
theorem present_of_mem_slots {h : Head} {lane p : Nat} (hp : p ∈ h.slots lane) : (h.entry p).status = .present := by
  cases hw : h.width with
  | none => simp [Head.slots, hw] at hp
  | some w => exact ((mem_slots hw lane p).1 hp).1.2.2

/-- R28, R35: the slots of a lane stand in order of position. -/
theorem slots_pairwise (h : Head) (lane : Nat) : (h.slots lane).Pairwise (· < ·) := by
  unfold Head.slots
  split
  · exact List.Pairwise.nil
  · exact List.Pairwise.filter _ (List.pairwise_lt_range' (s := 1) (n := Config.positions))

/-- R28: a position is carried by one lane. -/
theorem lane_unique {h : Head} {a b p : Nat} (ha : p ∈ h.slots a) (hb : p ∈ h.slots b) : a = b := by
  cases hw : h.width with
  | none => simp [Head.slots, hw] at ha
  | some w => exact ((mem_slots hw a p).1 ha).2.symm.trans ((mem_slots hw b p).1 hb).2

/-- R35: the raw samples that a lane delivers. -/
def laneSamples (h : Head) (frames : List LaneFrame) (lane : Nat) : List (Nat × Int) :=
  match h.goodFrame frames lane with
  | some f => (h.slots lane).zip f.raws
  | none => []

theorem rawSamples_eq (h : Head) (frames : List LaneFrame) : h.rawSamples frames = h.lanes.flatMap (laneSamples h frames) := rfl

/-- R35: a lane's samples are those of its good frame, slot by slot. -/
theorem mem_laneSamples {h : Head} {frames : List LaneFrame} {lane p : Nat} {raw : Int} :
    (p, raw) ∈ laneSamples h frames lane ↔ ∃ f, h.goodFrame frames lane = some f
      ∧ ∃ i : Nat, (h.slots lane)[i]? = some p ∧ f.raws[i]? = some raw := by
  unfold laneSamples
  cases h.goodFrame frames lane with
  | none => simp
  | some f => simp [List.mem_iff_getElem?, List.getElem?_zip_eq_some]

theorem mem_rawSamples {h : Head} {frames : List LaneFrame} {p : Nat} {raw : Int} :
    (p, raw) ∈ h.rawSamples frames ↔ ∃ lane ∈ h.lanes, ∃ f, h.goodFrame frames lane = some f
      ∧ ∃ i : Nat, (h.slots lane)[i]? = some p ∧ f.raws[i]? = some raw := by
  simp only [rawSamples_eq, List.mem_flatMap, mem_laneSamples]

/-- R35: a good frame is of its lane and holds a raw sample for each slot. -/
theorem goodFrame_fits {h : Head} {frames : List LaneFrame} {lane : Nat} {f : LaneFrame}
    (hf : h.goodFrame frames lane = some f) : f.lane = lane ∧ f.raws.length = (h.slots lane).length := by
  simpa using List.find?_some hf

/-- R35: the positions of a lane's samples are its slots where it has a good frame. -/
theorem laneSamples_sublist (h : Head) (frames : List LaneFrame) (lane : Nat) :
    ((laneSamples h frames lane).map (·.1)).Sublist (h.slots lane) := by
  unfold laneSamples
  split
  · next f hf => rw [List.map_fst_zip (goodFrame_fits hf).2.ge]
  · simp

/-- R35: a raw sample is of a present position. -/
theorem present_of_mem_rawSamples {h : Head} {frames : List LaneFrame} {r : Nat × Int} (hr : r ∈ h.rawSamples frames) :
    (h.entry r.1).status = .present := by
  obtain ⟨lane, _, f, _, i, hi, _⟩ := mem_rawSamples.1 hr
  exact present_of_mem_slots (List.mem_of_getElem? hi)

/-- R35: with no lane twice in use, an instant holds one raw sample at most for a position. -/
theorem rawSamples_nodup {h : Head} (frames : List LaneFrame) (hl : h.lanes.Nodup) :
    ((h.rawSamples frames).map (·.1)).Nodup := by
  rw [rawSamples_eq, List.map_flatMap, List.nodup_flatMap]
  refine ⟨fun lane _ => ((slots_pairwise h lane).imp Nat.ne_of_lt).sublist (laneSamples_sublist h frames lane), ?_⟩
  refine hl.imp fun {a b} hab p ha hb => hab ?_
  exact lane_unique ((laneSamples_sublist h frames a).subset ha) ((laneSamples_sublist h frames b).subset hb)

/-! ## The frames of an instant (R35, R36, R41) -/

/-- R35: the finger frame of an instant. -/
def fingerFrame (h : Head) (frames : List LaneFrame) : List (Nat × FingerSample) :=
  (h.rawSamples frames).map (fun r => (r.1, tareSample (h.entry r.1) r.2))

/-- R35: an entry takes its latest sample. -/
def withLatest (x : Nat × FingerSample) (e : PosEntry) : PosEntry := { e with latest := some x.2 }

/-- R35, R36, R41: the head after the frames of an instant, part by part. -/
theorem takeFrames_head (h : Head) (frames : List LaneFrame) : (h.takeFrames frames).1 = { h with
    bad := h.countBad frames, acks := [], tare := h.tare.map (fun t => t.take (h.rawSamples frames))
    table := editEntries Prod.fst withLatest (fingerFrame h frames) h.table } :=
  foldl_onEntry (pos := Prod.fst) (f := withLatest) (fingerFrame h frames) _

theorem takeFrames_finger (h : Head) (frames : List LaneFrame) : (h.takeFrames frames).2 = fingerFrame h frames := rfl

end Sys2Proof.Machine
end

section
/-! PROOFS. Every step keeps the bounds of the head and of the guard unit (R22, R24 to R41, R163, R165). -/

namespace Sys2Proof.Machine

/-! ## Position entries -/

/-- R31, R35, R39, R41: a present entry stays sound where its identity stays, its offset is that of a tared position or 0, and its
latest sample is in range. -/
theorem entrySound_of_present {e e' : PosEntry} (he : EntrySound e) (hp : e.status = .present) (hs : e'.status = e.status)
    (hserial : e'.serial = e.serial) (hkind : e'.cellKind = e.cellKind) (hclaims : e'.claimants = e.claimants)
    (hoffset : e'.tared = false → e'.offset = 0) (hlatest : ∀ v, e'.latest = some v → v.value ≤ 20000) : EntrySound e' where
  present := by rw [hs, hserial, hkind]; exact he.present
  serial := by rw [hserial, hkind]; exact he.serial
  conflicting := by rw [hs, hclaims]; exact he.conflicting
  bare := fun h => absurd (hs.trans hp) h
  offset := hoffset
  latest := hlatest

/-- R35: a tared sample lies in its range. -/
theorem tareSample_value_le (e : PosEntry) (raw : Int) : (tareSample e raw).value ≤ 20000 := Nat.min_le_left _ _

/-- R39: an alert leaves a position's identity, its offset and its latest sample. -/
theorem alertEffect_keeps (kind : Nat) (e : PosEntry) : (alertEffect kind e).status = e.status
    ∧ (alertEffect kind e).serial = e.serial ∧ (alertEffect kind e).cellKind = e.cellKind
    ∧ (alertEffect kind e).claimants = e.claimants ∧ (alertEffect kind e).tared = e.tared
    ∧ (alertEffect kind e).offset = e.offset ∧ (alertEffect kind e).latest = e.latest := by
  unfold alertEffect
  split <;> simp

/-- R30, R31: a settled entry is sound. -/
theorem entrySound_settle {old : PosEntry} (cs : List CellAnswer) (he : EntrySound old) : EntrySound (settle old cs) := by
  unfold settle
  split
  · exact entrySound_blank
  · split
    · next c h =>
      exact ⟨by simp [h], by simp [h], by simp [h], fun hn => absurd h.1 hn, he.offset, fun v hv => by cases hv⟩
    · exact ⟨by simp, rfl, by simp [PosEntry.blank], by simp, fun _ => rfl, fun v hv => by cases hv⟩
  · exact ⟨by simp [PosEntry.blank], rfl, by simp, by simp [PosEntry.blank], fun _ => rfl, fun v hv => by cases hv⟩

/-- Every entry read from a sound table is sound. -/
theorem entrySound_entry {h : Head} (hs : ∀ e ∈ h.table, EntrySound e) (p : Nat) : EntrySound (h.entry p) := by
  unfold Head.entry
  split
  · exact entrySound_blank
  · rw [List.getD_eq_getElem?_getD]
    cases he : h.table[p - 1]? with
    | none => exact entrySound_blank
    | some e => exact hs e (List.mem_of_getElem? he)

/-! ## The head's operations keep its bounds -/

/-- A tare stays sound on a head with the same statuses. -/
theorem tareSound_congr {h h' : Head} {t : Tare} (hst : ∀ q, (h'.entry q).status = (h.entry q).status) (ht : TareSound h t) :
    TareSound h' t :=
  ⟨ht.instants, ht.distinct, fun u hu => ⟨(hst _).trans (ht.sums u hu).1, (ht.sums u hu).2⟩⟩

/-- A head with its position table edited, entry by entry, in the same statuses. -/
theorem headSound_withTable {h : Head} {table : List PosEntry} (acks : List (Nat × Nat)) (hs : HeadSound h)
    (hlen : table.length = h.table.length) (hent : ∀ e ∈ table, EntrySound e)
    (hst : ∀ q, (Head.entry { h with table := table } q).status = (h.entry q).status) :
    HeadSound { h with table := table, acks := acks } :=
  { hs with
    table := ⟨hlen.trans hs.table.1, hent⟩
    tare := fun t ht => ⟨(hs.tare t ht).1, tareSound_congr hst (hs.tare t ht).2⟩ }

/-- R42: a head whose tare has ended. -/
theorem headSound_noTare {h : Head} (hs : HeadSound h) : HeadSound { h with tare := none } :=
  { hs with tare := fun t ht => by cases ht }

/-- R26: the head as a training run begins. -/
def inTraining (a : Nat) (h : Head) : Head :=
  { h with
    status := .training, width := none, lanes := [], runFailed := [], attempt := a, stage := .none, answers := []
    bad := noBadFrames, tare := none }

/-- R22, R25, R29: a training run keeps the table, the failed lanes and what the last enumeration recorded. -/
theorem headSound_inTraining {a : Nat} {h : Head} (h1 : 1 ≤ a) (h7 : a ≤ 7)
    (htable : h.table.length = 48 ∧ ∀ e ∈ h.table, EntrySound e) (hfailed : ∀ l ∈ h.failedLanes, 1 ≤ l ∧ l ≤ 4)
    (hkinds : ∀ k, h.kind = some k ∨ h.doneKind = some k → 1 ≤ k ∧ k ≤ 15)
    (hdone : h.enumerated = h.doneKind.isSome ∧ h.enumerated = h.doneOrientation.isSome) : HeadSound (inTraining a h) where
  table := htable
  bad := ⟨rfl, by simp [inTraining, noBadFrames]⟩
  unused := fun l hl1 hl4 _ => by interval_cases l <;> rfl
  failed := fun l hl => hfailed l (by simpa [inTraining] using hl)
  width := by simp [inTraining]
  lanes := by simp [inTraining]
  attempt := fun _ => ⟨h1, h7⟩
  stage := by simp [inTraining]
  answers := fun _ => rfl
  kinds := hkinds
  named := by simp [inTraining]
  done := hdone
  ready := by simp [inTraining]
  tare := fun t ht => by cases ht

/-- R25: the head in NO_LINK. -/
theorem headSound_noLink {h : Head} {failed runFailed : List Nat} (hs : HeadSound h) (hr : h.status ≠ .ready)
    (hfailed : ∀ l ∈ failed ++ runFailed, 1 ≤ l ∧ l ≤ 4) : HeadSound { h with
      status := .noLink, width := none, lanes := [], failedLanes := failed, runFailed := runFailed, attempt := 0
      stage := .none, answers := [] } where
  table := hs.table
  bad := hs.bad
  unused := fun l h1 h4 _ => hs.unused l h1 h4 (.inl hr)
  failed := hfailed
  width := by simp
  lanes := by simp
  attempt := by simp
  stage := by simp
  answers := fun _ => rfl
  kinds := hs.kinds
  named := by simp
  done := hs.done
  ready := by simp
  tare := fun t ht => absurd (hs.tare t ht).1 hr

/-- R25: each attempt's width and lanes are a row of the table. -/
theorem attempt_row {a : Nat} (h1 : 1 ≤ a) (h7 : a ≤ 7) : (some (attemptWidth a), attemptLanes a) ∈
    [(none, []), (some .four, [1, 2, 3, 4]), (some .two, [1, 2]), (some .two, [3, 4]), (some .one, [1]), (some .one, [2]),
      (some .one, [3]), (some .one, [4])] := by
  interval_cases a <;> decide

/-- R25: an attempt has succeeded. -/
theorem headSound_trainingSuccess {s : State} (hs : HeadSound s.head) (ht : s.head.status = .training) :
    HeadSound (trainingSuccess s).head := by
  have hhead : (trainingSuccess s).head = { s.head with
      status := .enumerating, width := some (attemptWidth s.head.attempt), lanes := attemptLanes s.head.attempt
      failedLanes := s.head.runFailed, attempt := 0, stage := .descriptor, answers := [] } := by
    simp only [trainingSuccess]
    split <;> rfl
  obtain ⟨h1, h7⟩ := hs.attempt ht
  have hr : s.head.status ≠ .ready := by simp [ht]
  rw [hhead]
  exact {
    table := hs.table
    bad := hs.bad
    unused := fun l h1 h4 _ => hs.unused l h1 h4 (.inl hr)
    failed := fun l hl => hs.failed l (by simp only [List.mem_append, or_self] at hl ⊢; exact .inr hl)
    width := by simp
    lanes := attempt_row h1 h7
    attempt := by simp
    stage := by simp
    answers := fun _ => rfl
    kinds := hs.kinds
    named := by simp
    done := hs.done
    ready := by simp
    tare := fun t h => absurd (hs.tare t h).1 hr }

/-- R25: the members of the lanes of two sets. -/
theorem mem_laneUnion {a b : List Nat} {l : Nat} : l ∈ laneUnion a b ↔ 1 ≤ l ∧ l ≤ 4 ∧ (l ∈ a ∨ l ∈ b) := by
  have hl : l ∈ [1, 2, 3, 4] ↔ 1 ≤ l ∧ l ≤ 4 := by simp only [List.mem_cons, List.not_mem_nil, or_false]; omega
  simp only [laneUnion, List.mem_filter, hl, Bool.or_eq_true, decide_eq_true_eq, and_assoc]

/-- R25: an attempt has failed. -/
theorem headSound_trainingTimeout {s : State} (passed : List Nat) (hs : HeadSound s.head) (ht : s.head.status = .training) :
    HeadSound (trainingTimeout passed s).head := by
  have hr : s.head.status ≠ .ready := by simp [ht]
  obtain ⟨h1, h7⟩ := hs.attempt ht
  have hfailed : ∀ a b, ∀ l ∈ laneUnion a b ++ laneUnion a b, 1 ≤ l ∧ l ≤ 4 := fun a b l hl => by
    simp only [List.mem_append, or_self, mem_laneUnion] at hl
    exact ⟨hl.1, hl.2.1⟩
  simp only [trainingTimeout]
  split
  · next hlt =>
    exact { hs with
      failed := hfailed _ _
      attempt := fun _ => ⟨Nat.le_add_left 1 _, hlt⟩
      tare := fun t h => absurd (hs.tare t h).1 hr }
  · exact headSound_noLink (h := s.head) hs hr (hfailed _ _)

/-- R29: the descriptor has answered. -/
theorem headSound_descriptorAnswered {s : State} (kind : Nat) (o : Orientation) (hs : HeadSound s.head)
    (ht : s.head.status = .enumerating) : HeadSound (descriptorAnswered kind o s).head := by
  have hr : s.head.status ≠ .ready := by simp [ht]
  unfold descriptorAnswered
  split
  · next hk =>
    exact { hs with
      stage := by simp [ht]
      answers := fun _ => rfl
      kinds := fun k h => h.elim (fun h => by cases h; exact (between_iff 1 15 kind).1 hk) (fun h => hs.kinds k (.inr h))
      named := by simp
      ready := by simp [ht]
      tare := fun t h => absurd (hs.tare t h).1 hr }
  · exact headSound_noLink hs hr hs.failed

/-- R30: a cell has answered the roll call. -/
theorem headSound_answer {h : Head} (a : CellAnswer) (hs : HeadSound h) (hr : h.stage = .rollCall) :
    HeadSound { h with answers := h.answers ++ [a] } :=
  { hs with
    answers := fun hn => absurd hr hn
    tare := fun t ht => ⟨(hs.tare t ht).1, tareSound_congr (h := h) (fun _ => rfl) (hs.tare t ht).2⟩ }

/-- R30 to R32: the roll-call window closes. -/
theorem headSound_closeRollCall {s : State} (hs : HeadSound s.head) (ht : s.head.status = .enumerating)
    (hr : s.head.stage = .rollCall) : HeadSound (closeRollCall s).head := by
  have hnamed := hs.named (.inl hr)
  exact {
    table := ⟨by simp [closeRollCall, Head.rollCall, allPositions, Config.positions], fun e he => by
      obtain ⟨p, _, rfl⟩ := List.mem_map.1 he
      exact entrySound_settle _ (entrySound_entry hs.table.2 p)⟩
    bad := hs.bad
    unused := fun l h1 h4 _ => hs.unused l h1 h4 (.inl (by simp [ht]))
    failed := hs.failed
    width := by simpa [closeRollCall, ht] using hs.width
    lanes := hs.lanes
    attempt := by simp [closeRollCall]
    stage := by simp [closeRollCall]
    answers := fun _ => rfl
    kinds := fun k h => hs.kinds k (.inl (by simpa [closeRollCall] using h))
    named := fun _ => hnamed
    done := ⟨hnamed.1.symm, hnamed.2.symm⟩
    ready := fun _ => ⟨rfl, rfl, rfl⟩
    tare := fun t h => absurd (hs.tare t h).1 (by simp [ht]) }

/-- R40: a tare begins. -/
theorem headSound_beginTare {h : Head} (tag : Nat) (hs : HeadSound h) (hr : h.status = .ready) :
    HeadSound (h.beginTare tag) := by
  refine { hs with tare := fun t ht => ⟨hr, ?_⟩ }
  cases ht
  refine ⟨by simp, ?_, fun u hu => ?_⟩
  · simp only [List.map_map, Function.comp_def, List.map_id']
    exact (List.nodup_range' (step := 1)).filter _
  · obtain ⟨p, hp, rfl⟩ := List.mem_map.1 hu
    exact ⟨of_decide_eq_true (List.mem_filter.1 hp).2, Nat.zero_le _⟩

/-- R41: what a completed tare makes of a position with 64 samples. -/
def withOffset (u : TareSum) (e : PosEntry) : PosEntry := { e with offset := tareMean u.sum, tared := true, drift := false }

/-- R41: the head after a tare has completed. -/
theorem completeTare_head (h : Head) (t : Tare) : h.completeTare t =
    { h with tare := none, table := editEntries TareSum.position withOffset (t.sums.filter TareSum.full) h.table } :=
  foldl_onEntry (pos := TareSum.position) (f := withOffset) _ _

/-- R41: a tare completes. -/
theorem headSound_completeTare {h : Head} {t : Tare} (hs : HeadSound h) (ht : h.tare = some t) :
    HeadSound (h.completeTare t) := by
  obtain ⟨_, _, hdistinct, hsums⟩ := hs.tare t ht
  have hnodup : ((t.sums.filter TareSum.full).map TareSum.position).Nodup :=
    hdistinct.sublist (List.filter_sublist.map _)
  rw [completeTare_head]
  refine headSound_withTable h.acks (headSound_noTare hs) (by simp) (fun e he => ?_)
    (fun q => status_editEntries _ { h with tare := none } q fun _ _ => rfl)
  rcases mem_editEntries hnodup he with he | ⟨u, hu, e', hp, he', rfl⟩
  · exact hs.table.2 e he
  · have hsound := hs.table.2 e' (List.mem_of_getElem? he')
    have hpresent : e'.status = .present := entry_of_getElem? hp he' ▸ (hsums u (List.mem_of_mem_filter hu)).1
    exact entrySound_of_present hsound hpresent rfl rfl rfl rfl (fun h => by cases h) hsound.latest

/-! ## The frames of an instant -/

/-- R36: the bad-frame count of a lane after an instant. -/
theorem getElem?_countBad {h : Head} (frames : List LaneFrame) {l n : Nat} (hl : 1 ≤ l) (hn : h.bad[l - 1]? = some n) :
    (h.countBad frames)[l - 1]? = some (
      if l ∉ h.lanes then 0 else if (h.goodFrame frames l).isSome then 0 else min 8 (n + 1)) := by
  have hl' : l - 1 + 1 = l := by omega
  simp only [Head.countBad, List.getElem?_map, List.getElem?_zipIdx, hn, Option.map_some, Nat.zero_add, hl',
    Config.badFrameLimit]
  split <;> simp_all

/-- R36: bad-frame counts are at most 8. -/
theorem countBad_le (h : Head) (frames : List LaneFrame) : ∀ n ∈ h.countBad frames, n ≤ 8 := by
  intro n hn
  obtain ⟨x, _, rfl⟩ := List.mem_map.1 hn
  simp only [Config.badFrameLimit]
  split
  · split <;> omega
  · omega

/-- R41: a position's sum with the raw sample that an instant holds of it. -/
def TareSum.sampled (raws : List (Nat × Int)) (u : TareSum) : TareSum :=
  match raws.find? (fun r => decide (r.1 = u.position)) with
  | some r => { u with sum := u.sum + r.2, count := u.count + 1 }
  | none => u

@[simp] theorem TareSum.sampled_position (raws : List (Nat × Int)) (u : TareSum) : (u.sampled raws).position = u.position := by
  unfold TareSum.sampled
  split <;> rfl

theorem TareSum.sampled_count_le (raws : List (Nat × Int)) (u : TareSum) : (u.sampled raws).count ≤ u.count + 1 := by
  unfold TareSum.sampled
  split
  · exact Nat.le_refl _
  · exact Nat.le_succ _

/-- R41: an instant of a tare. -/
theorem take_eq (t : Tare) (raws : List (Nat × Int)) : t.take raws =
    if t.instants < 64 then { t with instants := t.instants + 1, sums := t.sums.map (TareSum.sampled raws) } else t := rfl

/-- R41: an instant of a tare keeps it sound. -/
theorem tareSound_take {h : Head} {t : Tare} (raws : List (Nat × Int)) (ht : TareSound h t) : TareSound h (t.take raws) := by
  rw [take_eq]
  split
  · next hlt =>
    refine ⟨hlt, ?_, fun u hu => ?_⟩
    · simpa [Function.comp_def] using ht.distinct
    · obtain ⟨v, hv, rfl⟩ := List.mem_map.1 hu
      obtain ⟨hpresent, hcount⟩ := ht.sums v hv
      exact ⟨by simpa using hpresent, (v.sampled_count_le raws).trans (Nat.succ_le_succ hcount)⟩
  · exact ht

/-- R22: a sound head has no lane twice in use. -/
theorem lanes_nodup {h : Head} (hs : HeadSound h) : h.lanes.Nodup := by
  have hlanes := hs.lanes
  simp only [List.mem_cons, Prod.mk.injEq, List.not_mem_nil, or_false] at hlanes
  rcases hlanes with ⟨_, h⟩ | ⟨_, h⟩ | ⟨_, h⟩ | ⟨_, h⟩ | ⟨_, h⟩ | ⟨_, h⟩ | ⟨_, h⟩ | ⟨_, h⟩ <;> rw [h] <;> decide

/-- R35, R36, R41: the frames of an instant in READY. -/
theorem headSound_takeFrames {h : Head} (frames : List LaneFrame) (hs : HeadSound h) (hr : h.status = .ready) :
    HeadSound (h.takeFrames frames).1 := by
  have hcounted : HeadSound { h with
      bad := h.countBad frames, tare := h.tare.map (fun t => t.take (h.rawSamples frames)) } := { hs with
    bad := ⟨by simpa [Head.countBad] using hs.bad.1, countBad_le h frames⟩
    unused := fun l h1 h4 hl => by
      have hbound : l - 1 < h.bad.length := by rw [hs.bad.1]; omega
      have hout : l ∉ h.lanes := hl.resolve_left (not_not_intro hr)
      rw [getElem?_countBad frames h1 (List.getElem?_eq_getElem hbound), if_pos hout]
    tare := fun t ht => by
      obtain ⟨t', ht', rfl⟩ := Option.map_eq_some_iff.1 ht
      exact ⟨hr, tareSound_take _ (tareSound_congr (h := h) (fun _ => rfl) (hs.tare t' ht').2)⟩ }
  have hnodup : ((fingerFrame h frames).map Prod.fst).Nodup := by
    simpa [fingerFrame, Function.comp_def] using rawSamples_nodup frames (lanes_nodup hs)
  rw [takeFrames_head]
  refine headSound_withTable [] hcounted (by simp) (fun e he => ?_)
    (fun q => status_editEntries _ { h with bad := _, tare := _ } q fun _ _ => rfl)
  rcases mem_editEntries hnodup he with he | ⟨x, hx, e', hp, he', rfl⟩
  · exact hs.table.2 e he
  · obtain ⟨r, hr, rfl⟩ := List.mem_map.1 hx
    have hsound := hs.table.2 e' (List.mem_of_getElem? he')
    have hpresent : e'.status = .present := entry_of_getElem? hp he' ▸ present_of_mem_rawSamples hr
    exact entrySound_of_present hsound hpresent rfl rfl rfl rfl hsound.offset
      (fun v hv => by cases hv; exact tareSample_value_le _ _)

/-- R38, R39: an entry as an alert leaves it. -/
def withAlert (a : Alert) (e : PosEntry) : PosEntry :=
  { alertEffect a.kind e with lastAlert := some (a.kind, a.value), lastSeq := some a.seq }

/-- R38, R39: the head after an alert of a good frame. -/
theorem takeAlert_head (s : State) (a : Alert) : (takeAlert s a).head =
    if (s.head.entry a.position).status ≠ .present ∨ (s.head.entry a.position).lastSeq = some a.seq then
      { s.head with acks := s.head.acks ++ [(a.position, a.seq)] }
    else
      { s.head with
        acks := s.head.acks ++ [(a.position, a.seq)], table := editEntry a.position (withAlert a) s.head.table } := by
  have hentry : ∀ acks, Head.entry { s.head with acks := acks } a.position = s.head.entry a.position := fun _ => rfl
  simp only [takeAlert, hentry]
  split
  · rfl
  · split
    · simp only [positionFailed_head_guards, raise_head, onEntry_eq]; rfl
    · simp only [raise_head, onEntry_eq]; rfl

/-- R38, R39: an alert of a good frame. -/
theorem headSound_takeAlert {s : State} (a : Alert) (hs : HeadSound s.head) : HeadSound (takeAlert s a).head := by
  rw [takeAlert_head]
  split
  · exact headSound_withTable _ hs rfl hs.table.2 fun _ => rfl
  · next htaken =>
    have hpresent : (s.head.entry a.position).status = .present := by
      by_contra hn
      exact htaken (.inl hn)
    have hstatus : ∀ e, (withAlert a e).status = e.status := fun e => (alertEffect_keeps a.kind e).1
    refine headSound_withTable _ hs (by simp) (fun e he => ?_) (fun q => status_editEntry _ q hstatus)
    rcases mem_editEntries (l := [a]) (pos := Alert.position) (f := withAlert) (by simp) he with he | ⟨x, hx, e', hp, he', rfl⟩
    · exact hs.table.2 e he
    · obtain rfl := List.mem_singleton.1 hx
      have hsound := hs.table.2 e' (List.mem_of_getElem? he')
      obtain ⟨hst, hserial, hkind, hclaims, htared, hoffset, hlatest⟩ := alertEffect_keeps x.kind e'
      exact entrySound_of_present hsound (entry_of_getElem? hp he' ▸ hpresent) hst hserial hkind hclaims
        (fun h => hoffset.trans (hsound.offset (htared.symm.trans h))) (fun v hv => hsound.latest v (hlatest.symm.trans hv))

end Sys2Proof.Machine
end

section
/-! PROOFS. The head and the guard unit keep their invariants: the guard unit's operations, requests, events, the step. -/

namespace Sys2Proof.Machine

/-! ## The guard unit (R163, R165, R170, R171) -/

/-- R165: an input's change leaves the other inputs' places in the set. -/
theorem mem_openSet_setState_other {g : Guards} {i x : Nat} (d : Debounced) (hi : 1 ≤ i) (h8 : i ≤ 8)
    (hl : g.states.length = 8) (hx : x ≠ i) : x ∈ (g.setState i d).openSet ↔ x ∈ g.openSet := by
  simp only [mem_openSet, kind_setState]
  by_cases h1 : 1 ≤ x
  · rw [state_setState d x hi h8 hl h1, if_neg hx]
  · simp [h1]

/-- R165: where no input enters an empty set, it stays empty. -/
theorem openSet_setState_empty {g : Guards} {i : Nat} (d : Debounced) (hi : 1 ≤ i) (h8 : i ≤ 8) (hl : g.states.length = 8)
    (he : g.openSet = []) (hn : i ∉ (g.setState i d).openSet) : (g.setState i d).openSet = [] := by
  rw [List.eq_nil_iff_forall_not_mem]
  intro x hx
  by_cases hxi : x = i
  · exact hn (hxi ▸ hx)
  · simpa [he] using (mem_openSet_setState_other d hi h8 hl hxi).1 hx

section
variable {s : State}

/-- R165: the set has become non-empty by the entry of an input. -/
theorem guardsSound_guardOpened {g : Guards} {i : Nat} (hg : s.guards = g) (hk : g.kinds.length = 8)
    (hst : g.states.length = 8) (hne : g.openSet ≠ []) (hi : 1 ≤ i ∧ i ≤ 8)
    (hclosed : ∀ j, g.lastClosed = some j → 1 ≤ j ∧ j ≤ 8) : GuardsSound (guardOpened i s).guards := by
  subst hg
  refine ⟨hk, hst, ⟨fun _ => hne, fun _ => rfl⟩, fun j hj => ?_⟩
  rcases hj with hj | hj
  · cases hj; exact hi
  · exact hclosed j hj

/-- R165: the set has become empty by the leaving of an input. -/
theorem guardsSound_guardClosed {i : Nat} (k : GuardKind) (hk : s.guards.kinds.length = 8) (hst : s.guards.states.length = 8)
    (he : s.guards.openSet = []) (hi : 1 ≤ i ∧ i ≤ 8) : GuardsSound (guardClosed i k s).guards where
  kinds := hk
  states := hst
  first := ⟨fun h => by simp [guardClosed] at h, fun h => absurd he h⟩
  marks := fun j hj => by
    rcases hj with hj | hj
    · cases hj
    · cases hj; exact hi

/-- R163, R165: the debounced state of an input has changed. -/
theorem guardsSound_takeGuardChange {i : Nat} (d : Debounced) (hi : 1 ≤ i) (h8 : i ≤ 8) (hs : GuardsSound s.guards) :
    GuardsSound (takeGuardChange i d s).guards := by
  have hlen : (s.guards.setState i d).states.length = 8 := (List.length_set ..).trans hs.states
  have hclosed : ∀ j, s.guards.lastClosed = some j → 1 ≤ j ∧ j ≤ 8 := fun j hj => hs.marks j (.inr hj)
  have hstays (h : s.guards.openSet ≠ [] ↔ (s.guards.setState i d).openSet ≠ []) : GuardsSound (s.guards.setState i d) :=
    ⟨hs.kinds, hlen, hs.first.trans h, hs.marks⟩
  simp only [takeGuardChange]
  split
  · next henters =>
    have hne : (s.guards.setState i d).openSet ≠ [] := List.ne_nil_of_mem henters.1
    split
    · exact guardsSound_guardOpened (guardEntry_head_guards _ _).2 hs.kinds hlen hne ⟨hi, h8⟩ hclosed
    · next hbefore => simpa using hstays ⟨fun _ => hne, fun _ => hbefore⟩
  · next henters =>
    split
    · next hempty => exact guardsSound_guardClosed _ hs.kinds hlen hempty.2 ⟨hi, h8⟩
    · next hempty =>
      refine hstays ⟨fun hb hn => hempty ⟨hb, hn⟩, fun hne hb => hne ?_⟩
      exact openSet_setState_empty d hi h8 hs.states hb fun hin => henters ⟨hin, by simp [State.openSet, hb]⟩

/-- R170, R171: the inputs have new kinds. -/
theorem guardsSound_takeGuardConfig {entries : List (Option GuardKind)} (he : entries.length = 8) (hs : GuardsSound s.guards) :
    GuardsSound (takeGuardConfig entries s).guards := by
  have hlen : (configKinds s.guards.kinds entries).length = 8 := by simp [configKinds, hs.kinds, he]
  have hclosed : ∀ j, s.guards.lastClosed = some j → 1 ≤ j ∧ j ≤ 8 := fun j hj => hs.marks j (.inr hj)
  have hrange (g : Guards) {i : Nat} (h : i ∈ g.openSet) : 1 ≤ i ∧ i ≤ 8 := by
    obtain ⟨h1, h8, _, _⟩ := (mem_openSet g i).1 h
    exact ⟨h1, h8⟩
  simp only [takeGuardConfig]
  split
  · next hbefore =>
    split
    · next i rest hafter =>
      have hmem : i ∈ State.openSet _ := hafter ▸ List.mem_cons_self
      exact guardsSound_guardOpened rfl hlen hs.states (List.ne_nil_of_mem hmem) (hrange _ hmem) hclosed
    · next hafter =>
      exact ⟨hlen, hs.states, hs.first.trans ⟨fun h => absurd hbefore h, fun h => absurd hafter h⟩, hs.marks⟩
  · next hbefore =>
    split
    · next hafter =>
      split
      · next i hi => exact guardsSound_guardClosed _ hlen hs.states hafter (hrange _ (List.mem_of_getLast? hi))
      · next hi => exact absurd (List.getLast?_eq_none_iff.1 hi) hbefore
    · next hafter => exact ⟨hlen, hs.states, hs.first.trans ⟨fun _ => hafter, fun _ => hbefore⟩, hs.marks⟩

@[simp] theorem takeGuardChange_head (i : Nat) (d : Debounced) (s : State) : (takeGuardChange i d s).head = s.head := by
  simp only [takeGuardChange]
  split
  · split <;> simp [guardOpened]
  · split <;> simp [guardClosed]

@[simp] theorem takeGuardConfig_head (entries : List (Option GuardKind)) (s : State) :
    (takeGuardConfig entries s).head = s.head := by
  simp only [takeGuardConfig]
  repeat' split
  all_goals simp [guardOpened, guardClosed]

end

/-! ## Both invariants kept together -/

/-- A change of state keeps the invariants of the head and of the guard unit. -/
structure KeepsHeadGuards (s u : State) : Prop where
  head : HeadSound s.head → HeadSound u.head
  guards : GuardsSound s.guards → GuardsSound u.guards

section
variable {s u v : State}

theorem keepsHeadGuards_of_same (h : u.head = s.head ∧ u.guards = s.guards) : KeepsHeadGuards s u :=
  ⟨fun hs => h.1 ▸ hs, fun hs => h.2 ▸ hs⟩

theorem keepsHeadGuards_trans (h : KeepsHeadGuards s u) (h' : KeepsHeadGuards u v) : KeepsHeadGuards s v :=
  ⟨h'.head ∘ h.head, h'.guards ∘ h.guards⟩

theorem keepsHeadGuards_of_head (h : HeadSound s.head → HeadSound u.head) (hg : u.guards = s.guards) : KeepsHeadGuards s u :=
  ⟨h, fun hs => hg ▸ hs⟩

/-! ## The head's events -/

/-- R26: the head after a training run has begun. -/
theorem beginTraining_head (a : Nat) (s : State) : (beginTraining a s).head = inTraining a s.head := by
  have htare : (abortTare s).head = { s.head with tare := none } := by
    unfold abortTare
    split
    · next h => simp [← h]
    · simp
  simp only [beginTraining, htare]
  split <;> simp [inTraining]

@[simp] theorem beginTraining_guards (a : Nat) (s : State) : (beginTraining a s).guards = s.guards := by
  simp only [beginTraining]
  split <;> simp

theorem beginTraining_keeps {a : Nat} (h1 : 1 ≤ a) (h7 : a ≤ 7) : KeepsHeadGuards s (beginTraining a s) :=
  keepsHeadGuards_of_head
    (fun hs => by
      rw [beginTraining_head]
      exact headSound_inTraining h1 h7 hs.table (fun l hl => hs.failed l (List.mem_append_left _ hl)) hs.kinds hs.done)
    (beginTraining_guards a s)

/-- R24: the head after a detach. -/
theorem detach_keeps : KeepsHeadGuards s (detach s) := by
  have hhead : (detach s).head = { Head.reset with unassigned := (abortTare s).head.unassigned } := by
    simp only [detach]
    split <;> simp [Head.detached]
  have hguards : (detach s).guards = s.guards := by
    simp only [detach]
    split <;> simp
  exact keepsHeadGuards_of_head (fun _ => hhead ▸ { headSound_reset with tare := fun t ht => by cases ht }) hguards

/-- R35: a frame instant. -/
theorem takeFrameInstant_keeps (enc : Int) (frames : List LaneFrame) (hf : s.head.framing = true) :
    KeepsHeadGuards s (takeFrameInstant enc frames s) := by
  have halerts : ∀ (alerts : List Alert) (u : State), KeepsHeadGuards u (alerts.foldl takeAlert u) := by
    intro alerts
    induction alerts with
    | nil => exact fun u => keepsHeadGuards_of_same ⟨rfl, rfl⟩
    | cons a alerts ih =>
      refine fun u => keepsHeadGuards_trans (keepsHeadGuards_of_head (headSound_takeAlert a) ?_) (ih (takeAlert u a))
      simp only [takeAlert]
      split
      · rfl
      · split <;> simp
  simp only [takeFrameInstant]
  refine keepsHeadGuards_trans (keepsHeadGuards_of_head (fun hs => ?_) ?_) (halerts _ _)
  · split <;> simpa using headSound_takeFrames frames hs ((framing_iff _).1 hf).1
  · split <;> simp

/-! ## Requests -/

theorem serveTare_keeps (l : Link) (tag : Nat) : KeepsHeadGuards s (serveTare l tag s) := by
  unfold serveTare
  split
  · exact keepsHeadGuards_of_same (by simp)
  · next hr =>
    split
    · exact keepsHeadGuards_of_same (by simp)
    · split
      · exact keepsHeadGuards_of_head (fun hs => headSound_beginTare tag hs (Decidable.not_not.1 hr)) rfl
      · exact keepsHeadGuards_of_same (by simp)

/-- R43: a RETRAIN keeps the invariant also where it abandons an enumeration that has its descriptor. -/
theorem serveRetrain_keeps (l : Link) (tag : Nat) : KeepsHeadGuards s (serveRetrain l tag s) := by
  unfold serveRetrain
  split
  · exact keepsHeadGuards_of_same (by simp)
  · split
    · exact keepsHeadGuards_of_same (by simp)
    · refine keepsHeadGuards_of_head (fun hs => ?_) (by simp)
      rw [reply_head, beginTraining_head]
      unfold Head.abandonRun
      split
      · exact headSound_inTraining (by omega) (by omega) hs.table (by simp) (fun k h => hs.kinds k (.inr (by simpa using h)))
          hs.done
      · exact headSound_inTraining (by omega) (by omega) hs.table (fun l hl => hs.failed l (List.mem_append_left _ hl))
          hs.kinds hs.done

theorem serveGuardConfig_keeps (l : Link) (tag : Nat) (codes : List Nat) :
    KeepsHeadGuards s (serveGuardConfig l tag codes s) := by
  simp only [serveGuardConfig]
  split
  · exact keepsHeadGuards_of_same (by simp)
  · next hlen =>
    split
    · exact keepsHeadGuards_of_same (by simp)
    · split
      · push Not at hlen
        exact ⟨fun hs => by simpa using hs, fun hs => by
          rw [reply_guards]
          exact guardsSound_takeGuardConfig (hlen.1.trans hlen.2) hs⟩
      · exact keepsHeadGuards_of_same (by simp)

/-- R182: a reset has sound tables. -/
theorem keepsHeadGuards_of_reset (hh : u.head = Head.reset) (hg : u.guards = Guards.reset) : KeepsHeadGuards s u :=
  ⟨fun _ => hh ▸ headSound_reset, fun _ => hg ▸ guardsSound_reset⟩

theorem serveRestart_keeps (l : Link) (tag : Nat) : KeepsHeadGuards s (serveRestart l tag s) := by
  unfold serveRestart
  split
  · exact keepsHeadGuards_of_same (by simp)
  · exact keepsHeadGuards_of_reset rfl rfl

/-- Every request keeps the invariants; four of them act on the head or the guards. -/
theorem serve_keeps_head_guards (closed : Bool) (r : Request) (l : Link) (tag : Nat) :
    KeepsHeadGuards s (serve closed r l tag s) := by
  cases r with
  | restart => exact serveRestart_keeps l tag
  | tare => exact serveTare_keeps l tag
  | retrain => exact serveRetrain_keeps l tag
  | guardConfig codes => exact serveGuardConfig_keeps l tag codes
  | _ => exact keepsHeadGuards_of_same (by simp [serve, serveIdent, serveState, serveHeadMap])

theorem takeRequest_keeps_head_guards (l : Link) (tag code : Nat) (body : Option Request) (closed : Bool) :
    KeepsHeadGuards s (takeRequest l tag code body s closed) := by
  simp only [takeRequest]
  split
  · exact keepsHeadGuards_of_same (by simp)
  · split
    · exact keepsHeadGuards_of_same (by simp)
    · split
      · exact keepsHeadGuards_of_same (by simp)
      · split
        · exact keepsHeadGuards_of_same (by simp)
        · exact keepsHeadGuards_trans (keepsHeadGuards_of_same (by simp)) (serve_keeps_head_guards closed _ l tag)

theorem receiveByte_keeps_head_guards (l : Link) (b : Byte) (closed : Bool) : KeepsHeadGuards s (receiveByte l b closed s) := by
  have hrx : ∀ rx, KeepsHeadGuards s (s.setRx l rx) := fun rx => keepsHeadGuards_of_same (by simp)
  simp only [receiveByte]
  split
  · split
    · exact hrx _
    · exact keepsHeadGuards_of_same ⟨rfl, rfl⟩
  · split
    · exact hrx _
    · split
      · exact hrx _
      · simp only [takeFrame]
        split
        · split
          · exact takeRequest_keeps_head_guards l _ _ _ closed
          · exact hrx _
        · exact hrx _

end

/-! ## The step -/

/-- A command's next state keeps both invariants. -/
def LeavesHeadGuards (s : State) (o : Host.Outcome State Fault Refusal) : Prop := ∃ u, o = done u ∧ KeepsHeadGuards s u

section
variable {s u v : State}

theorem leaves_done (h : KeepsHeadGuards s u) : LeavesHeadGuards s (done u) := ⟨u, rfl, h⟩

/-- A command that leaves the head and the guard unit. -/
theorem leaves_same (h : u.head = s.head ∧ u.guards = s.guards) : LeavesHeadGuards s (done u) :=
  leaves_done (keepsHeadGuards_of_same h)

/-- A command that is taken under a condition, and otherwise leaves the head and the guard unit. -/
theorem leaves_ite {c : Prop} [Decidable c] (hu : c → KeepsHeadGuards s u) (hv : v.head = s.head ∧ v.guards = s.guards) :
    LeavesHeadGuards s (if c then done u else done v) := by
  split
  · next h => exact leaves_done (hu h)
  · exact leaves_same hv

/-- A command that leaves the head and the guard unit, taken or not. -/
theorem leaves_ite_same {c : Prop} [Decidable c] (hu : u.head = s.head ∧ u.guards = s.guards)
    (hv : v.head = s.head ∧ v.guards = s.guards) : LeavesHeadGuards s (if c then done u else done v) :=
  leaves_ite (fun _ => keepsHeadGuards_of_same hu) hv

theorem execHandoverEnd_leaves (enc : Int) : LeavesHeadGuards s (execHandoverEnd s enc) := by
  simp only [execHandoverEnd]
  split
  · exact leaves_ite_same (by simp) (by simp)
  · exact leaves_same (by simp)

theorem execHomingComplete_leaves : LeavesHeadGuards s (execHomingComplete s) := by
  unfold execHomingComplete
  split
  · exact leaves_ite_same (by simp) (by simp)
  · exact leaves_same (by simp)

theorem execHoldOverdue_leaves : LeavesHeadGuards s (execHoldOverdue s) := by
  unfold execHoldOverdue
  split
  · exact leaves_same (by simp)
  · exact leaves_same (by simp)

theorem execTareComplete_leaves : LeavesHeadGuards s (execTareComplete s) := by
  unfold execTareComplete
  split
  · next t ht =>
    exact leaves_ite (fun _ => keepsHeadGuards_of_head
      (fun hs => by simpa [completeTare] using headSound_completeTare hs ht) (by simp [completeTare])) ⟨rfl, rfl⟩
  · exact leaves_same ⟨rfl, rfl⟩

theorem execUnknownRequest_leaves (h : Header) (code : Nat) : LeavesHeadGuards s (execUnknownRequest h code s) := by
  unfold execUnknownRequest
  split
  · exact leaves_same ⟨rfl, rfl⟩
  · exact leaves_done (takeRequest_keeps_head_guards ..)

/-- R166: a ram sample counts the time the open-guard set has stood non-empty. -/
theorem takeRamSample_keeps (raw enc : Int) : KeepsHeadGuards s (takeRamSample raw enc s) := by
  obtain ⟨hhead, hguards⟩ := takeRamSample_head_guards raw enc s
  exact ⟨fun hs => hhead ▸ hs, fun hs => hguards ▸ ⟨hs.kinds, hs.states, hs.first, hs.marks⟩⟩

/-- R26: a width's first attempt is a row of R25's table. -/
theorem firstAttempt_range (w : Option Width) : 1 ≤ firstAttempt w ∧ firstAttempt w ≤ 7 := by
  rcases w with _ | w
  · decide
  · cases w <;> decide

/-- R163: a change of an input's level. -/
theorem execGuardInputChange_leaves (input : Nat) (nowOpen : Bool) (enc : Int) :
    LeavesHeadGuards s (execGuardInputChange input nowOpen s enc) := by
  refine leaves_ite (fun hi => ⟨fun hs => by simpa using hs, fun hs => ?_⟩) (by simp)
  obtain ⟨h1, h8⟩ := (between_iff 1 8 input).1 hi
  exact guardsSound_takeGuardChange _ h1 h8 (by simpa using hs)

/-- A command that carries no request keeps the invariants. -/
theorem event_leaves_head_guards {i : Instr} (hi : i.request? = none) : LeavesHeadGuards s (exec i s) := by
  cases i with
  | powerOn => exact leaves_done (keepsHeadGuards_of_reset rfl rfl)
  | unknownRequest h code => exact execUnknownRequest_leaves h code
  | frameByteReceived l b closed => exact leaves_done (receiveByte_keeps_head_guards l b closed)
  | ramSample raw enc => exact leaves_done (takeRamSample_keeps raw enc)
  | frameInstant enc frames => exact leaves_ite (takeFrameInstant_keeps enc frames) ⟨rfl, rfl⟩
  | guardInputChange input nowOpen enc => exact execGuardInputChange_leaves input nowOpen enc
  | headAttach => exact leaves_ite (fun _ => beginTraining_keeps (by omega) (by omega)) ⟨rfl, rfl⟩
  | automaticRetrain enc =>
    obtain ⟨h1, h7⟩ := firstAttempt_range s.head.width
    exact leaves_ite (fun _ => keepsHeadGuards_trans (keepsHeadGuards_of_same (by simp)) (beginTraining_keeps h1 h7)) (by simp)
  | headDetach enc =>
    simp only [exec, execHeadDetach]
    split
    · exact leaves_same (by simp)
    · exact leaves_done (keepsHeadGuards_trans (keepsHeadGuards_of_same (by simp)) detach_keeps)
  | trainingAttemptSuccess =>
    refine leaves_ite (fun ht => keepsHeadGuards_of_head (fun hs => headSound_trainingSuccess hs ht) ?_) ⟨rfl, rfl⟩
    simp only [trainingSuccess]
    split <;> simp
  | trainingAttemptTimeout passed =>
    refine leaves_ite (fun ht => keepsHeadGuards_of_head (fun hs => headSound_trainingTimeout passed hs ht) ?_) ⟨rfl, rfl⟩
    simp only [trainingTimeout]
    split <;> simp [enterNoLink]
  | descriptorAnswer kind o =>
    refine leaves_ite (fun ht => keepsHeadGuards_of_head (fun hs => headSound_descriptorAnswered kind o hs ht.1) ?_) ⟨rfl, rfl⟩
    unfold descriptorAnswered
    split <;> simp [enterNoLink]
  | descriptorTimeout =>
    exact leaves_ite (fun ht => keepsHeadGuards_of_head
      (fun hs => headSound_noLink hs (by simp [ht.1]) hs.failed) rfl) ⟨rfl, rfl⟩
  | rollCallAnswer serial position kind =>
    exact leaves_ite (fun ht => keepsHeadGuards_of_head (fun hs => headSound_answer _ hs ht.2) rfl) ⟨rfl, rfl⟩
  | rollCallClose =>
    exact leaves_ite (fun ht => keepsHeadGuards_of_head (fun hs => headSound_closeRollCall hs ht.1 ht.2) rfl) ⟨rfl, rfl⟩
  | tareComplete => exact execTareComplete_leaves
  | handoverEnd enc => exact execHandoverEnd_leaves enc
  | homingComplete => exact execHomingComplete_leaves
  | holdOverdue => exact execHoldOverdue_leaves
  | frameDiscard l => exact leaves_same (by simp)
  | interByteTimeout l => exact leaves_same (by simp)
  | transmitFrameEnd l => exact leaves_same (by simp)
  | moveReached enc => exact leaves_same (by simp)
  | probeLimitArrival enc => exact leaves_same (by simp)
  | stall enc => exact leaves_same (by simp)
  | travelLimit enc => exact leaves_same (by simp)
  | driveFaultInput enc => exact leaves_same (by simp)
  | driveReadyPresent => exact leaves_same (by simp)
  | faultInputInactive => exact leaves_same (by simp)
  | rampOutputZero => exact leaves_ite_same (by simp) (by simp)
  | homeSwitchClosed => exact leaves_ite_same (by simp) (by simp)
  | homingRest enc => exact leaves_ite_same (by simp) (by simp)
  | homingTimeout => exact leaves_ite_same (by simp) (by simp)
  | underrunTimeout enc => exact leaves_ite_same (by simp) (by simp)
  | dwellElapsed enc => exact leaves_ite_same (by simp) (by simp)
  | stopAtRest enc => exact leaves_ite_same (by simp) (by simp)
  | retractReached enc => exact leaves_ite_same (by simp) (by simp)
  | driveReadyLost enc => exact leaves_ite_same (by simp) (by simp)
  | stopTimeout enc => exact leaves_ite_same (by simp) (by simp)
  | restReport => exact leaves_ite_same (by simp) (by simp)
  | _ => simp [Instr.request?] at hi

/-- Every command keeps the invariants of the head and of the guard unit. -/
theorem exec_leaves_head_guards (i : Instr) (s : State) : LeavesHeadGuards s (exec i s) := by
  cases hi : i.request? with
  | none => exact event_leaves_head_guards hi
  | some p =>
    rw [exec_of_request hi]
    exact leaves_done (takeRequest_keeps_head_guards ..)

/-- Every step keeps the invariants of the head and of the guard unit. -/
theorem step_keeps_head_guards {s t : State} (ht : step s = .next t) : KeepsHeadGuards s t := by
  unfold step at ht
  split at ht
  · cases ht
    exact keepsHeadGuards_of_same ⟨rfl, rfl⟩
  · next c rest _ =>
    obtain ⟨u, hu, hkeeps⟩ := exec_leaves_head_guards c { s with pending := rest }
    rw [hu] at ht
    cases ht
    exact ⟨hkeeps.head, hkeeps.guards⟩

end

/-- Settles O27: the head's own events and TARE, RETRAIN and RESTART keep its bounds, operation by operation; input changes and
GUARD CONFIG keep the guard unit's; every other command leaves both. -/
theorem headAndGuardsStaySound : Obligations.HeadAndGuardsStaySound :=
  ⟨fun _ _ hs ht => (step_keeps_head_guards ht).head hs, fun _ _ hs ht => (step_keeps_head_guards ht).guards hs⟩

end Sys2Proof.Machine
end

section
/-! PROOFS. The slots of the lanes, the good frame of a lane and the raw samples of an instant (R28, R35). -/

namespace Sys2Proof.Machine

/-- R28, R35: a lane's good frame is the first of the instant that fits it. -/
theorem goodFrame_of_first {h : Head} {lane : Nat} {f : LaneFrame} (a b : List LaneFrame) (hlane : f.lane = lane)
    (hraws : f.raws.length = (h.slots lane).length)
    (ha : ∀ g ∈ a, ¬ (g.lane = lane ∧ g.raws.length = (h.slots lane).length)) :
    h.goodFrame (a ++ f :: b) lane = some f := by
  rw [Head.goodFrame, List.find?_eq_some_iff_append]
  refine ⟨by simp [hlane, hraws], a, b, rfl, fun g hg => ?_⟩
  simpa [-not_and, not_and_or] using ha g hg

theorem goodFrame_of_none {h : Head} {frames : List LaneFrame} {lane : Nat}
    (hf : ∀ g ∈ frames, ¬ (g.lane = lane ∧ g.raws.length = (h.slots lane).length)) : h.goodFrame frames lane = none := by
  rw [Head.goodFrame, List.find?_eq_none]
  exact fun g hg => by simpa using hf g hg

/-- R28: with four lanes, each carries twelve positions. -/
theorem mem_slots_four {h : Head} {k p : Nat} (hw : h.width = some .four) (hl : h.lanes = [1, 2, 3, 4]) (h1 : 1 ≤ k)
    (h4 : k ≤ 4) :
    p ∈ h.slots k ↔ (1 ≤ p ∧ p ≤ 48 ∧ (h.entry p).status = .present) ∧ 12 * (k - 1) + 1 ≤ p ∧ p ≤ 12 * k := by
  rw [mem_slots hw, hl]
  refine and_congr_right fun ⟨hp1, hp48, _⟩ => ?_
  have hblock : (p - 1) / 12 < 4 := by omega
  have hlane : [1, 2, 3, 4].getD ((p - 1) / 12) 0 = (p - 1) / 12 + 1 := by
    generalize (p - 1) / 12 = q at hblock
    interval_cases q <;> rfl
  change [1, 2, 3, 4].getD ((p - 1) / 12) 0 = k ↔ _
  rw [hlane]
  omega

/-- R28: with two lanes, the first carries positions 1 to 24, the second 25 to 48. -/
theorem mem_slots_two {h : Head} {a b p : Nat} (hw : h.width = some .two) (hl : h.lanes = [a, b]) (hab : a ≠ b) :
    (p ∈ h.slots a ↔ (1 ≤ p ∧ p ≤ 48 ∧ (h.entry p).status = .present) ∧ p ≤ 24)
    ∧ (p ∈ h.slots b ↔ (1 ≤ p ∧ p ≤ 48 ∧ (h.entry p).status = .present) ∧ 25 ≤ p) := by
  rw [mem_slots hw, mem_slots hw, hl]
  have hlane : 1 ≤ p → p ≤ 48 → [a, b].getD ((p - 1) / 24) 0 = if p ≤ 24 then a else b := fun hp1 hp48 => by
    split
    · rw [show (p - 1) / 24 = 0 by omega]; rfl
    · rw [show (p - 1) / 24 = 1 by omega]; rfl
  constructor
  · refine and_congr_right fun ⟨hp1, hp48, _⟩ => ?_
    change [a, b].getD ((p - 1) / 24) 0 = a ↔ _
    rw [hlane hp1 hp48]
    split <;> simp [*, hab.symm]
  · refine and_congr_right fun ⟨hp1, hp48, _⟩ => ?_
    change [a, b].getD ((p - 1) / 24) 0 = b ↔ _
    rw [hlane hp1 hp48]
    split <;> simp [hab] <;> omega

/-- R28: with one lane, it carries every present position. -/
theorem mem_slots_one {h : Head} {a p : Nat} (hw : h.width = some .one) (hl : h.lanes = [a]) :
    p ∈ h.slots a ↔ 1 ≤ p ∧ p ≤ 48 ∧ (h.entry p).status = .present := by
  rw [mem_slots hw, hl, and_iff_left_iff_imp]
  rintro ⟨hp1, hp48, _⟩
  change [a].getD ((p - 1) / 48) 0 = a
  rw [show (p - 1) / 48 = 0 by omega]
  rfl

/-- Settles O22, by the block of 48 / n positions that holds a position, and the lane that stands in its place. -/
theorem laneFramesCarryTheSlots : Obligations.LaneFramesCarryTheSlots := by
  intro h frames present
  refine ⟨fun k p hw hl h1 h4 => mem_slots_four hw hl h1 h4, fun a b p hw hl hab => mem_slots_two hw hl hab.ne,
    fun a p hw hl => mem_slots_one hw hl, slots_pairwise h, ?_, fun p raw => mem_rawSamples, rawSamples_nodup frames⟩
  intro lane good
  refine ⟨?_, goodFrame_of_none⟩
  rintro a f b rfl ⟨hlane, hraws⟩ ha
  exact goodFrame_of_first a b hlane hraws ha

end Sys2Proof.Machine
end

section
/-! PROOFS. A frame instant: the samples it takes, what it feeds to a press, the cell alerts it brings (R35, R36, R38, R39, R41,
R88, R96, R110, R112). -/

namespace Sys2Proof.Machine

/-! ## Samples (R35, R36, R41) -/

/-- R35: a raw sample tared, clamped and marked, in words. -/
theorem tareSample_eq (e : PosEntry) (raw : Int) : tareSample e raw = {
    value := if raw - e.offset < 0 then 0 else if 20000 ≤ raw - e.offset then 20000 else (raw - e.offset).toNat
    suspect := decide (20000 ≤ raw - e.offset ∨ e.tared = false ∨ e.overtemp = true ∨ e.drift = true ∨ e.failed = true) } := by
  have hvalue : min 20000 (raw - e.offset).toNat
      = if raw - e.offset < 0 then 0 else if 20000 ≤ raw - e.offset then 20000 else (raw - e.offset).toNat := by
    split
    · omega
    · split <;> omega
  have hsuspect : (decide ((Config.maxFinger : Int) ≤ raw - e.offset) || !e.tared || e.overtemp || e.drift || e.failed)
      = decide (20000 ≤ raw - e.offset ∨ e.tared = false ∨ e.overtemp = true ∨ e.drift = true ∨ e.failed = true) := by
    rw [Bool.eq_iff_iff]
    simp only [Bool.or_eq_true, decide_eq_true_eq, Bool.not_eq_true', or_assoc]
    exact Iff.rfl
  exact congrArg₂ FingerSample.mk hvalue hsuspect

/-- R41: an instant of a tare, up to the 64th. -/
theorem take_eq_of_instants (t : Tare) (raws : List (Nat × Int)) : t.take raws =
    if 64 ≤ t.instants then t else { t with instants := t.instants + 1, sums := t.sums.map (TareSum.sampled raws) } := by
  rw [take_eq]
  split
  · rw [if_neg (by omega)]
  · rw [if_pos (by omega)]

section
variable {h : Head} {frames : List LaneFrame}

/-- R35: the finger frame holds a sample of each position that has a raw sample. -/
theorem fingerFrame_positions : (fingerFrame h frames).map Prod.fst = (h.rawSamples frames).map (·.1) := by
  simp [fingerFrame, Function.comp_def]

/-- R35: a position without a raw sample keeps its entry. -/
theorem takeFrames_table_other {p : Nat} (hp : 1 ≤ p) (hraws : ∀ r ∈ h.rawSamples frames, r.1 ≠ p) :
    (h.takeFrames frames).1.table[p - 1]? = h.table[p - 1]? := by
  rw [takeFrames_head]
  refine editEntries_other h.table hp fun x hx => ?_
  obtain ⟨r, hr, rfl⟩ := List.mem_map.1 hx
  exact hraws r hr

/-- R35: a position's raw sample, tared, becomes its latest sample. -/
theorem takeFrames_table_sampled {p : Nat} {raw : Int} {e : PosEntry} (hp : 1 ≤ p) (he : h.table[p - 1]? = some e)
    (hnodup : ((h.rawSamples frames).map (·.1)).Nodup) (hraw : (p, raw) ∈ h.rawSamples frames) :
    (h.takeFrames frames).1.table[p - 1]? = some { e with latest := some (tareSample e raw) } := by
  have hmem : (p, tareSample e raw) ∈ fingerFrame h frames :=
    List.mem_map.2 ⟨(p, raw), hraw, by rw [entry_of_getElem? hp he]⟩
  rw [takeFrames_head]
  have hself := editEntries_self (f := withLatest) h.table (fingerFrame_positions ▸ hnodup) hmem hp
  rwa [he] at hself

end

/-! ## The frame instant (R35) -/

/-- R35: no frames are delivered outside READY or with a lane at 8. -/
theorem exec_frameInstant_idle {enc : Int} {frames : List LaneFrame} {s : State}
    (hs : s.head.status ≠ .ready ∨ ∃ n ∈ s.head.bad, 8 ≤ n) : exec (.frameInstant enc frames) s = .next s.arbiters := by
  have hf : ¬ s.head.framing = true := by
    rw [framing_iff]
    rintro ⟨hr, hb⟩
    rcases hs with hn | ⟨n, hn, h8⟩
    · exact hn hr
    · have := hb n hn; omega
  exact if_neg hf

/-- R35: a frame instant in READY. -/
theorem exec_frameInstant_taken {enc : Int} {frames : List LaneFrame} {s : State} (hr : s.head.status = .ready)
    (hb : ∀ n ∈ s.head.bad, n < 8) :
    exec (.frameInstant enc frames) s = .next (takeFrameInstant enc frames s).arbiters :=
  if_pos ((framing_iff _).2 ⟨hr, hb⟩)

/-- R85: the running job's part with a distance travelled by its step in hand. -/
def runMoved (distance : Nat) (r : Run) : Run :=
  { r with inHand := r.inHand.map (fun h => { h with travelled := h.travelled + distance }) }

/-- R35: the state once the frames of an instant have been taken, before the job and the alerts. -/
def framesTaken (enc : Int) (frames : List LaneFrame) (s : State) : State :=
  { latched enc s with head := (s.head.takeFrames frames).1 }

/-- R46, R85: the running job's part once the frames of an instant have been taken. -/
theorem run_framesTaken (enc : Int) (frames : List LaneFrame) (s : State) :
    (framesTaken enc frames s).run = s.run.map (runMoved (enc - s.motion.enc).natAbs) := by
  simp only [State.run, framesTaken, latched]
  cases s.job <;> rfl

/-- R35: with no job running, a frame instant takes its samples, then its alerts. -/
theorem takeFrameInstant_idle {s : State} (enc : Int) (frames : List LaneFrame) (hrun : s.run = none) :
    takeFrameInstant enc frames s = (s.head.alerts frames).foldl takeAlert (framesTaken enc frames s) := by
  have hrun' : (framesTaken enc frames s).run = none := by rw [run_framesTaken, hrun]; rfl
  rw [framesTaken] at hrun'
  simp only [takeFrameInstant, latch_eq, latched_head, hrun', framesTaken]

/-- R35: with a job running, a frame instant takes its samples, uses them, then takes its alerts. -/
theorem takeFrameInstant_running {s : State} {r : Run} (enc : Int) (frames : List LaneFrame) (hrun : s.run = some r) :
    takeFrameInstant enc frames s = (s.head.alerts frames).foldl takeAlert
      (useFinger (runMoved (enc - s.motion.enc).natAbs r) (fingerFrame s.head frames) (framesTaken enc frames s)) := by
  have hrun' : (framesTaken enc frames s).run = some (runMoved (enc - s.motion.enc).natAbs r) := by
    rw [run_framesTaken, hrun]; rfl
  rw [framesTaken] at hrun'
  simp only [takeFrameInstant, latch_eq, latched_head, hrun', takeFrames_finger, framesTaken]

/-- Settles O23, part by part of the head that the frames leave, and the instant itself by the job that is not running. -/
theorem frameInstantTakesSamples : Obligations.FrameInstantTakesSamples := by
  intro enc frames s raws head finger sample
  refine ⟨fun _ _ hnodup => ⟨fun l h1 _ n hn => ?_, fun p e hp he hraws => ?_, fun p e raw hp he hraw => ?_, ?_, ?_⟩,
    fun hr hb hrun => ?_, exec_frameInstant_idle⟩
  · rw [show head = _ from takeFrames_head s.head frames]
    exact getElem?_countBad frames h1 hn
  · exact (takeFrames_table_other hp hraws).trans he
  · exact (takeFrames_table_sampled hp he hnodup hraw).trans (by rw [tareSample_eq])
  · simp only [finger, takeFrames_finger, fingerFrame, tareSample_eq]; rfl
  · simp only [head, takeFrames_head, take_eq_of_instants]
    rfl
  · rw [exec_frameInstant_taken hr hb, takeFrameInstant_idle enc frames hrun]
    rfl

end Sys2Proof.Machine
end

section
/-! PROOFS. A frame instant in a press: binning, the finger caps, the cell alerts (R38, R39, R88, R96, R97, R110, R112). -/

namespace Sys2Proof.Machine

/-! ## Binning and caps (R88, R96, R97, R110) -/

/-- R88, R96: the state with a finger frame binned, where binning is active and the columns still take samples. -/
def fingersBinned (r : Run) (finger : List (Nat × FingerSample)) (s : State) : State :=
  { s with profile := if s.profile.binning = true ∧ r.fingersGone = false then
      r.map.zipIdx.foldl (fun (p : Profile) (x : Nat × Nat) => match fingerOf finger x.1 with
        | some v => p.bin (x.2 + 1) s.motion.position v.value v.suspect
        | none => p) s.profile
    else s.profile }

/-- R110: some column's sample stands above its finger cap. -/
def CapExceeded (r : Run) (finger : List (Nat × FingerSample)) (m : Monitor) : Prop :=
  ∃ lim, m.limits = some lim ∧ overFingerCap lim.caps r.map finger = true

theorem overFingerCap_iff (caps : List (Option Nat)) (map : List Nat) (finger : List (Nat × FingerSample)) :
    overFingerCap caps map finger = true ↔ ∃ (i p cap : Nat) (v : FingerSample), caps[i]? = some (some cap)
      ∧ map[i]? = some p ∧ fingerOf finger p = some v ∧ cap < v.value := by
  simp only [overFingerCap, List.any_eq_true]
  constructor
  · rintro ⟨⟨p, cap⟩, hmem, hover⟩
    obtain ⟨i, hi⟩ := List.mem_iff_getElem?.1 hmem
    obtain ⟨hmap, hcap⟩ := List.getElem?_zip_eq_some.1 hi
    cases cap with
    | none => simp at hover
    | some cap =>
      cases hv : fingerOf finger p with
      | none => simp [hv] at hover
      | some v => exact ⟨i, p, cap, v, hcap, hmap, hv, by simpa [hv] using hover⟩
  · rintro ⟨i, p, cap, v, hcap, hmap, hv, hover⟩
    exact ⟨(p, some cap), List.mem_iff_getElem?.2 ⟨i, List.getElem?_zip_eq_some.2 ⟨hmap, hcap⟩⟩, by simpa [hv] using hover⟩

section
variable {r : Run} {finger : List (Nat × FingerSample)} {s : State}

/-- R88: what a finger frame does before the caps. -/
theorem fingersBinned_eq : (if r.fingersGone then s
    else { s with profile := binFingers r.map s.motion.position finger s.profile }) = fingersBinned r finger s := by
  unfold fingersBinned binFingers
  cases r.fingersGone <;> cases s.profile.binning <;> rfl

/-- R110: outside PRESSING, and with every sample within its cap, a finger frame is binned alone. -/
theorem useFinger_within (h : s.monitor.phase ≠ .pressing ∨ ¬ CapExceeded r finger s.monitor) :
    useFinger r finger s = fingersBinned r finger s := by
  simp only [useFinger, fingersBinned_eq]
  split
  · next lim hp hl =>
    rw [if_neg]
    rcases h with h | h
    · exact absurd hp h
    · exact fun ho => h ⟨lim, hl, ho⟩
  · rfl

/-- R110: in PRESSING, a sample above its cap ends the PRESS step. -/
theorem useFinger_over (hp : s.monitor.phase = .pressing) (ho : CapExceeded r finger s.monitor) :
    useFinger r finger s = endStep .forceCap s.motion.position false (fingersBinned r finger s) := by
  obtain ⟨lim, hl, ho⟩ := ho
  have hp' : (fingersBinned r finger s).monitor.phase = .pressing := hp
  have hl' : (fingersBinned r finger s).monitor.limits = some lim := hl
  simp only [useFinger, fingersBinned_eq, hp', hl', ho, if_true]

end

/-- Settles O24: the samples are used once the count is latched, and the caps end the PRESS step as any abort does. -/
theorem frameInstantFeedsThePress : Obligations.FrameInstantFeedsThePress := by
  intro enc frames j r s hj hr hready hbad position finger sample alerts binned fed exceeded
  have hrun : s.run = some r := run_of_job hj hr
  have hfed : fingersBinned (runMoved (enc - s.motion.enc).natAbs r) (fingerFrame s.head frames) (framesTaken enc frames s)
      = fed := rfl
  have hcap : CapExceeded (runMoved (enc - s.motion.enc).natAbs r) (fingerFrame s.head frames) s.monitor ↔ exceeded := by
    simp only [CapExceeded, overFingerCap_iff, exceeded]
    constructor
    · rintro ⟨lim, hl, i, p, cap, v, hrest⟩
      exact ⟨lim, i, p, cap, v, hl, hrest⟩
    · rintro ⟨lim, i, p, cap, v, hl, hrest⟩
      exact ⟨lim, hl, i, p, cap, v, hrest⟩
  rw [exec_frameInstant_taken hready hbad, takeFrameInstant_running enc frames hrun]
  refine ⟨fun hwithin => ?_, fun hp hover h hh hpress => ?_⟩
  · rw [useFinger_within (s := framesTaken enc frames s) (hwithin.imp_right fun hn hc => hn (hcap.1 hc)), hfed]
    rfl
  · intro h'
    have hjob : fed.job = some { j with run := some { r with inHand := some h' } } := by simp [fed, latched, hj, hr, hh, h']
    have hpress' : bodyKind h'.record.body = .press := hpress
    rw [useFinger_over (s := framesTaken enc frames s) hp (hcap.2 hover), hfed]
    exact ⟨_, endStep_aborts _ _ _ hjob rfl rfl (by simp [hpress', normalEnd]) (by simp), rfl⟩

/-! ## Cell alerts (R38, R39, R112) -/

/-- R38: an alert is acknowledged. -/
def acknowledged (s : State) (a : Alert) : State :=
  { s with head := { s.head with acks := s.head.acks ++ [(a.position, a.seq)] } }

/-- R38, R39: an alert is taken: acknowledged, kept with its effect on its position's entry, and announced. -/
def alertTaken (s : State) (a : Alert) : State :=
  State.raise { acknowledged s a with
    head := { (acknowledged s a).head with table := editEntry a.position (withAlert a) s.head.table } }
    (.cellAlert a.position a.kind a.value)

/-- R39: an entry as an alert leaves it, in words. -/
theorem withAlert_eq (a : Alert) (e : PosEntry) : withAlert a e = { e with
    overtemp := if a.kind = 0 then true else if a.kind = 1 then false else e.overtemp
    drift := e.drift || decide (a.kind = 2), failed := e.failed || decide (a.kind = 3)
    lastAlert := some (a.kind, a.value), lastSeq := some a.seq } := by
  unfold withAlert alertEffect
  split <;> simp_all

/-- The table with a listed position's entry replaced. -/
theorem editEntry_eq_set {t : List PosEntry} {p : Nat} {e : PosEntry} (f : PosEntry → PosEntry) (hp : 1 ≤ p)
    (he : t[p - 1]? = some e) : editEntry p f t = t.set (p - 1) (f e) := by
  rw [editEntry, if_neg (by omega), List.modify_eq_set_getElem?, he]
  rfl

section
variable {s : State} {a : Alert} {e : PosEntry}

/-- R38: an alert of a position that is not present, or a repeat. -/
theorem takeAlert_ignored (he : s.head.entry a.position = e) (h : e.status ≠ .present ∨ e.lastSeq = some a.seq) :
    takeAlert s a = acknowledged s a := by
  subst he
  exact if_pos h

/-- R38, R39, R112: an alert that is taken, and the failure of its position where it brings one. -/
theorem takeAlert_taken (he : s.head.entry a.position = e) (hp : e.status = .present) (hseq : e.lastSeq ≠ some a.seq) :
    takeAlert s a = if a.kind = 3 ∧ e.failed = false then positionFailed a.position (alertTaken s a) else alertTaken s a := by
  subst he
  have hnot : ¬ ((s.head.entry a.position).status ≠ .present ∨ (s.head.entry a.position).lastSeq = some a.seq) := by
    simp [hp, hseq]
  simp only [takeAlert, onEntry_eq, Bool.not_eq_true']
  exact if_neg hnot

/-- R112: the open record once a position's column is ABSENT. -/
def columnAbsent (p : Nat) (s : State) : State :=
  s.onRecord (fun r => { r with columns := r.columns.map (fun c => if c.position = p then { c with judged := false } else c) })

/-- R112: the failure of a position that a running press maps. -/
theorem positionFailed_mapped {p : Nat} {r : Run} (hrun : s.run = some r) (hphase : s.monitor.phase ≠ .inactive)
    (hp : p ∈ r.map) : positionFailed p s = sensingLost (columnAbsent p s) := by
  rw [positionFailed, if_pos ⟨hphase, by simpa [hrun] using hp⟩]
  rfl

/-- R112: the failure of any other position. -/
theorem positionFailed_unmapped {p : Nat} (h : s.monitor.phase = .inactive ∨ ∀ r, s.run = some r → p ∉ r.map) :
    positionFailed p s = s := by
  rw [positionFailed, if_neg]
  rintro ⟨hphase, hp⟩
  cases hrun : s.run with
  | none => simp [hrun] at hp
  | some r => exact h.elim hphase fun hmap => hmap r hrun (by simpa [hrun] using hp)

end

/-- Settles O25: the alert is acknowledged, kept and announced, and only then does the failure of its position end the
program. -/
theorem cellAlertIsTakenOnce : Obligations.CellAlertIsTakenOnce := by
  intro a e s hpos hget acked taken absent
  have hentry := entry_of_getElem? hpos hget
  have htaken : alertTaken s a = taken := by
    simp only [alertTaken, editEntry_eq_set _ hpos hget, withAlert_eq]
    rfl
  refine ⟨takeAlert_ignored hentry, fun hp hseq => ?_⟩
  rw [takeAlert_taken hentry hp hseq, htaken]
  refine ⟨fun hquiet => ?_, fun j r hj hr hkind hfailed hmap => ?_⟩
  · split
    · next hfails =>
      refine positionFailed_unmapped ?_
      rcases hquiet with hk | hf | hq
      · exact absurd hfails.1 hk
      · simp [hf] at hfails
      · exact hq
    · rfl
  · have hrun : taken.run = some r := run_of_job (s := taken) hj hr
    have habsent (hphase : s.monitor.phase ≠ .inactive) :
        (if a.kind = 3 ∧ e.failed = false then positionFailed a.position taken else taken) = sensingLost absent := by
      rw [if_pos ⟨hkind, hfailed⟩, positionFailed_mapped hrun hphase hmap]
      rfl
    refine ⟨fun hsettled => ?_, fun hphase => ?_⟩
    · rw [habsent (by simp [hsettled])]
      have hphase : absent.monitor.phase = .settled := hsettled
      exact sensingLost_quiet (by simp [hphase]) (by simp [hphase])
    · rw [habsent (by rcases hphase with h | h <;> simp [h])]
      exact ⟨fun h hh => sensingLost_aborts (s := absent) hphase hj hr hh,
        fun hh hs => sensingLost_paused (s := absent) hphase hj hr hh hs⟩

end Sys2Proof.Machine
end

section
/-! PROOFS. The head's course: attach, detach and RETRAIN, training and enumeration (R22 to R32, R37, R42, R43). -/

namespace Sys2Proof.Machine

/-! ## The head comes and goes (R22 to R24, R26, R37, R42, R43) -/

section
variable {s : State}

/-- R111: a departure from READY where sensing is not watched stops the columns' samples, and no more. -/
theorem sensingLost_fingersStop_quiet (hw : s.monitor.phase ≠ .watching) (hp : s.monitor.phase ≠ .pressing) :
    sensingLost (fingersStop s) = fingersStop s := sensingLost_quiet (s := fingersStop s) hw hp

theorem exec_headAttach_detached (h : s.head.status = .detached) :
    exec .headAttach s = .next (trainingFrom 1 (tareEnded s)).arbiters := by
  have hexec : exec .headAttach s = done (beginTraining 1 s) := if_pos h
  rw [hexec, beginTraining_eq, if_neg (by simp [h])]
  rfl

theorem exec_headAttach_attached (h : s.head.status ≠ .detached) : exec .headAttach s = .next s.arbiters :=
  if_neg h

/-- R37: a lane at 8 bad frames, in READY, and no loss of sensing to report. -/
theorem exec_automaticRetrain_taken (enc : Int) (hr : s.head.status = .ready) (hb : ∃ n ∈ s.head.bad, 8 ≤ n)
    (hw : s.monitor.phase ≠ .watching) (hp : s.monitor.phase ≠ .pressing) : exec (.automaticRetrain enc) s = .next
      (fingersStop (trainingFrom (attemptOf s.head.width) (tareEnded (latched enc s)))).arbiters := by
  have hf : ¬ s.head.framing = true := by
    rw [framing_iff]
    obtain ⟨n, hn, h8⟩ := hb
    exact fun h => absurd (h.2 n hn) (by omega)
  have hexec : exec (.automaticRetrain enc) s = done (beginTraining (firstAttempt s.head.width) (latched enc s)) :=
    if_pos ⟨hr, hf⟩
  rw [hexec, beginTraining_eq, latched_head, if_pos hr, firstAttempt_eq,
    sensingLost_fingersStop_quiet (by simpa [trainingFrom] using hw) (by simpa [trainingFrom] using hp)]
  rfl

theorem exec_automaticRetrain_idle (enc : Int) (h : s.head.status ≠ .ready ∨ ∀ n ∈ s.head.bad, n < 8) :
    exec (.automaticRetrain enc) s = .next (latched enc s).arbiters := by
  have hidle : ¬ (s.head.status = .ready ∧ ¬ s.head.framing = true) := fun ⟨hr, hf⟩ =>
    h.elim (fun hn => hn hr) fun hb => hf ((framing_iff _).2 ⟨hr, hb⟩)
  exact if_neg hidle

theorem exec_headDetach_detached (enc : Int) (h : s.head.status = .detached) :
    exec (.headDetach enc) s = .next (latched enc s).arbiters :=
  if_pos h

/-- R24: a detach with no loss of sensing to report. -/
theorem exec_headDetach_attached (enc : Int) (h : s.head.status ≠ .detached) (hw : s.monitor.phase ≠ .watching)
    (hp : s.monitor.phase ≠ .pressing) : exec (.headDetach enc) s = .next (State.arbiters
      (if s.head.status = .ready then fingersStop (headGone (tareEnded (latched enc s)))
        else headGone (tareEnded (latched enc s)))) := by
  have hexec : exec (.headDetach enc) s = done (detach (latched enc s)) := if_neg h
  rw [hexec, detach_eq, latched_head,
    sensingLost_fingersStop_quiet (by simpa [headGone] using hw) (by simpa [headGone] using hp)]
  rfl

/-! ## RETRAIN (R43) -/

theorem exec_retrain_of_admitted {h : Header} (ha : admitted h .retrain s = true) :
    exec (.retrain h) s = done (serveRetrain h.link h.tag (heard h s)) := exec_of_admitted rfl ha

@[simp] theorem heard_run (h : Header) (s : State) : (heard h s).run = s.run := by simp [State.run]

/-- R43: RETRAIN is taken in any head state but DETACHED with no job running. -/
theorem serveRetrain_taken (l : Link) (tag : Nat) (h : s.head.status ≠ .detached) (hrun : s.run = none) :
    serveRetrain l tag s = (beginTraining 1 { s with head := s.head.abandonRun }).reply l tag .ok [] := by
  rw [serveRetrain, if_neg h, if_neg (by simp [State.jobRunning, hrun])]

/-- R27, R29: a run or an enumeration that RETRAIN abandons. -/
theorem exec_retrain_abandons {h : Header} (ha : admitted h .retrain s = true) (hrun : s.run = none)
    (hst : s.head.status = .training ∨ s.head.status = .enumerating) :
    exec (.retrain h) s = answered h .ok [] (trainingFrom 1 (tareEnded { heard h s with head := { s.head with
      failedLanes := [], kind := s.head.doneKind, orientation := s.head.doneOrientation } })) := by
  have hne : s.head.status ≠ .detached ∧ s.head.status ≠ .ready := by rcases hst with h | h <;> simp [h]
  rw [exec_retrain_of_admitted ha, serveRetrain_taken _ _ (by simpa using hne.1) (by simpa using hrun), heard_head,
    Head.abandonRun, if_pos hst, beginTraining_eq, if_neg hne.2]
  rfl

/-- R43: RETRAIN in READY or NO_LINK, before a press. -/
theorem exec_retrain_begins {h : Header} (ha : admitted h .retrain s = true) (hrun : s.run = none)
    (hphase : s.monitor.phase = .inactive) (hst : s.head.status = .ready ∨ s.head.status = .noLink) :
    exec (.retrain h) s = answered h .ok [] (if s.head.status = .ready then
      fingersStop (trainingFrom 1 (tareEnded (heard h s))) else trainingFrom 1 (tareEnded (heard h s))) := by
  have hne : s.head.status ≠ .detached := by rcases hst with h | h <;> simp [h]
  have habandon : ¬ (s.head.status = .training ∨ s.head.status = .enumerating) := by rcases hst with h | h <;> simp [h]
  have hsame : ({ heard h s with head := s.head } : State) = heard h s := by rw [← heard_head h s]
  rw [exec_retrain_of_admitted ha, serveRetrain_taken _ _ (by simpa using hne) (by simpa using hrun), heard_head,
    Head.abandonRun, if_neg habandon, hsame, beginTraining_eq, heard_head,
    sensingLost_fingersStop_quiet (by simp [trainingFrom, hphase]) (by simp [trainingFrom, hphase])]
  rfl

end

/-- Settles O18, event by event. -/
theorem headComesAndGoes : Obligations.HeadComesAndGoes := by
  intro h enc s left
  refine ⟨exec_headAttach_detached, exec_headAttach_attached, exec_automaticRetrain_taken enc, exec_automaticRetrain_idle enc,
    exec_headDetach_detached enc, exec_headDetach_attached enc, fun ha => ⟨fun hst => ?_, fun hst hrun => ?_, fun hrun hphase =>
      ⟨exec_retrain_abandons ha hrun, exec_retrain_begins ha hrun hphase⟩⟩⟩
  · rw [exec_retrain_of_admitted ha, serveRetrain, if_pos (by simpa using hst)]
    rfl
  · have hrunning : (heard h s).jobRunning = true := by simpa [State.jobRunning, Option.isSome_iff_ne_none] using hrun
    rw [exec_retrain_of_admitted ha, serveRetrain, if_neg (by simpa using hst), if_pos hrunning]
    rfl

/-! ## Training and enumeration (R25, R29, R30) -/

/-- R25: what the model knows of a row of the table of attempts. -/
theorem attempt_of_row {a : Nat} {w : Width} {lanes : List Nat}
    (h : (a, w, lanes) ∈ [(1, .four, [1, 2, 3, 4]), (2, .two, [1, 2]), (3, .two, [3, 4]), (4, .one, [1]), (5, .one, [2]),
      (6, .one, [3]), (7, .one, [4])]) :
    attemptWidth a = w ∧ attemptLanes a = lanes ∧ (w = .four ↔ a = 1) ∧ lanes.length = widthLanes w := by
  simp only [List.mem_cons, Prod.mk.injEq, List.not_mem_nil, or_false] at h
  rcases h with ⟨rfl, rfl, rfl⟩ | ⟨rfl, rfl, rfl⟩ | ⟨rfl, rfl, rfl⟩ | ⟨rfl, rfl, rfl⟩ | ⟨rfl, rfl, rfl⟩ | ⟨rfl, rfl, rfl⟩ |
    ⟨rfl, rfl, rfl⟩ <;> decide

/-- R25: an attempt has succeeded, in one state. -/
theorem trainingSuccess_eq (s : State) : trainingSuccess s =
    let won : State := { s with head := { s.head with
      status := .enumerating, width := some (attemptWidth s.head.attempt), lanes := attemptLanes s.head.attempt
      failedLanes := s.head.runFailed, attempt := 0, stage := .descriptor, answers := [] } }
    if attemptWidth s.head.attempt = .four then won
    else won.raise (.sensingDegraded (widthLanes (attemptWidth s.head.attempt)) (attemptLanes s.head.attempt)
      s.head.runFailed) :=
  rfl

/-- R25: the lanes that have failed once the attempt in progress has. -/
def failedAfter (passed : List Nat) (h : Head) : List Nat :=
  laneUnion h.runFailed ((attemptLanes h.attempt).filter (fun l => decide (l ∉ passed)))

theorem trainingTimeout_next {s : State} {passed : List Nat} (h7 : s.head.attempt < 7) : trainingTimeout passed s =
    { s with head := { s.head with
      runFailed := failedAfter passed s.head, failedLanes := failedAfter passed s.head, attempt := s.head.attempt + 1 } } :=
  if_pos h7

/-- R25: the seventh failure ends the run. -/
theorem trainingTimeout_last {s : State} {passed : List Nat} (h7 : s.head.attempt = 7) : trainingTimeout passed s =
    State.raise { s with head := { s.head with
      status := .noLink, width := none, lanes := [], runFailed := failedAfter passed s.head
      failedLanes := failedAfter passed s.head, attempt := 0, stage := .none, answers := [] } }
      (.sensingDegraded 0 [] (failedAfter passed s.head)) :=
  if_neg (by omega)

/-- Settles O19, attempt by attempt of R25's table and stage by stage of the enumeration. -/
theorem headTrainsAndEnumerates : Obligations.HeadTrainsAndEnumerates := by
  refine ⟨fun a w lanes passed s hrow hst hattempt => ?_, fun k serial position kind o s hst => ?_⟩
  · intro won
    have hsuccess : exec .trainingAttemptSuccess s = done (trainingSuccess s) := if_pos hst
    have htimeout : exec (.trainingAttemptTimeout passed) s = done (trainingTimeout passed s) := if_pos hst
    obtain ⟨hw, hl, hfour, hlen⟩ := attempt_of_row hrow
    subst hattempt
    rw [hsuccess, htimeout]
    refine ⟨?_, failedAfter passed s.head, fun l => ?_, fun h7 => ?_, fun h7 => ?_⟩
    · rw [trainingSuccess_eq, hw, hl, ← hlen]
      simp only [hfour]
      rfl
    · rw [failedAfter, mem_laneUnion, hl]
      simp
    · rw [trainingTimeout_next h7]; rfl
    · rw [trainingTimeout_last h7]; rfl
  · intro failed
    refine ⟨fun hstage => ⟨fun h1 h15 => ?_, ?_, ?_⟩, fun hstage => ?_⟩
    · have hexec : exec (.descriptorAnswer k o) s = done (descriptorAnswered k o s) := if_pos ⟨hst, hstage⟩
      rw [hexec, descriptorAnswered, if_pos ((between_iff 1 15 k).2 ⟨h1, h15⟩)]
      rfl
    · exact if_pos ⟨hst, hstage⟩
    · exact if_pos ⟨hst, hstage⟩
    · exact if_pos ⟨hst, hstage⟩

/-! ## The roll call (R30 to R32) -/

section
variable {old : PosEntry} {cs : List CellAnswer}

theorem settle_unclaimed (h : cs = []) : settle old cs = PosEntry.blank := by rw [h]; rfl

theorem settle_conflicting (h : 2 ≤ cs.length) :
    settle old cs = { PosEntry.blank with status := .conflicting, claimants := some cs.length } := by
  match cs, h with
  | _ :: _ :: _, _ => rfl

theorem settle_same {a : CellAnswer} (h : cs = [a]) (hp : old.status = .present) (hs : old.serial = some a.serial) :
    settle old cs =
      { old with cellKind := some a.kind, claimants := none, failed := false, lastSeq := none, latest := none } := by
  rw [h]
  exact if_pos ⟨hp, hs⟩

theorem settle_new {a : CellAnswer} (h : cs = [a]) (hn : ¬ (old.status = .present ∧ old.serial = some a.serial)) :
    settle old cs = { PosEntry.blank with status := .present, serial := some a.serial, cellKind := some a.kind } := by
  rw [h]
  exact if_neg hn

end

/-- R30, R31: the table after the roll call, position by position. -/
theorem getElem?_rollCall (h : Head) {p : Nat} (h1 : 1 ≤ p) (h48 : p ≤ 48) :
    h.rollCall[p - 1]? = some (settle (h.entry p) (claims h.answers p)) := by
  have hpos : allPositions[p - 1]? = some p := by
    rw [allPositions, List.getElem?_range' (by simp only [Config.positions]; omega)]
    simp; omega
  simp [Head.rollCall, hpos]

/-- R30: the cells set aside, in words. -/
theorem unassignedCells_eq (answers : List CellAnswer) :
    unassignedCells answers = (answers.filter (fun a => a.position = 0 ∨ 48 < a.position)).length := by
  refine congrArg List.length (List.filter_congr fun a _ => ?_)
  rw [Bool.eq_iff_iff, Bool.not_eq_true', between_eq_false_iff, decide_eq_true_iff, Config.positions]
  omega

/-- Settles O20, with the table that the answers settle. -/
theorem rollCallSettlesThePositions : Obligations.RollCallSettlesThePositions := by
  intro s hst hstage
  refine ⟨s.head.rollCall, by simp [Head.rollCall, allPositions, Config.positions], fun p h1 h48 => ?_, ?_⟩
  · rw [getElem?_rollCall s.head h1 h48]
    exact ⟨fun h => congrArg some (settle_unclaimed h), fun h => congrArg some (settle_conflicting h),
      fun a h hn => congrArg some (settle_new h hn), fun a h hp hs => congrArg some (settle_same h hp hs)⟩
  · have hexec : exec .rollCallClose s = done (closeRollCall s) := if_pos ⟨hst, hstage⟩
    rw [hexec, ← unassignedCells_eq]
    rfl

/-! ## The tare (R40, R41) -/

theorem exec_tare_of_admitted {h : Header} {s : State} (ha : admitted h .tare s = true) :
    exec (.tare h) s = done (serveTare h.link h.tag (heard h s)) := exec_of_admitted rfl ha

section
variable {l : Link} {tag : Nat} {s : State}

theorem serveTare_notReady (h : s.head.status ≠ .ready) : serveTare l tag s = s.refuse l tag .headNotReady := if_pos h

theorem serveTare_taring (hr : s.head.status = .ready) (ht : s.head.tare ≠ none) :
    serveTare l tag s = s.refuse l tag .busy := by
  rw [serveTare, if_neg (not_not_intro hr), if_pos (Option.isSome_iff_ne_none.2 ht)]

/-- R40: past the head's own checks, the ram's and the job's. -/
theorem serveTare_free (hr : s.head.status = .ready) (ht : s.head.tare = none) : serveTare l tag s =
    if (s.motion.stroke = .idle ∨ s.motion.stroke = .unhomed) ∧ s.run = none then { s with head := s.head.beginTare tag }
    else s.refuse l tag .busy := by
  rw [serveTare, if_neg (not_not_intro hr), if_neg (by simp [ht])]
  simp [State.jobRunning]

end

/-- R41: the tare mean is the floor of the sum plus 32, divided by 64. -/
theorem tareMean_eq (sum : Int) : tareMean sum = Int.fdiv (sum + 32) 64 := (Int.fdiv_eq_ediv_of_nonneg _ (by decide)).symm

/-- Settles O21: TARE check by check, and its completion sum by sum. -/
theorem tareStoresTheOffsets : Obligations.TareStoresTheOffsets := by
  refine ⟨fun h s ha => ?_, fun t s ht hinstants hlen hnodup _ => ?_⟩
  · rw [exec_tare_of_admitted ha]
    refine ⟨fun hr => ?_, fun hr ht => ?_, fun hr ht hbusy => ?_, fun hr ht hstroke hrun => ?_⟩
    · rw [serveTare_notReady (by simpa using hr)]; rfl
    · rw [serveTare_taring (by simpa using hr) (by simpa using ht)]; rfl
    · rw [serveTare_free (by simpa using hr) (by simpa using ht), if_neg (by simp; tauto)]; rfl
    · rw [serveTare_free (by simpa using hr) (by simpa using ht), if_pos (by simp [hstroke, hrun]), heard_head]; rfl
  · have hnodup' : ((t.sums.filter TareSum.full).map TareSum.position).Nodup := hnodup.sublist (List.filter_sublist.map _)
    have hfull (u : TareSum) : u.full = true ↔ u.count = 64 := decide_eq_true_iff
    refine ⟨editEntries TareSum.position withOffset (t.sums.filter TareSum.full) s.head.table, by simp [hlen],
      fun p e hp he => ⟨fun u hu hpos hcount => ?_, fun hnone => ?_⟩, ?_⟩
    · subst hpos
      rw [editEntries_self _ hnodup' (List.mem_filter.2 ⟨hu, (hfull u).2 hcount⟩) hp, he, ← tareMean_eq]
      rfl
    · rw [editEntries_other _ hp fun u hu hpos => ?_, he]
      obtain ⟨hu, hcount⟩ := List.mem_filter.1 hu
      exact hnone u hu hpos ((hfull u).1 hcount)
    · have hexec : exec .tareComplete s = done (completeTare t s) := by
        simp only [exec, execTareComplete, ht]
        exact if_pos hinstants
      have hshort : t.sums.filter (fun u => !u.full) = t.sums.filter (fun u => decide (u.count ≠ 64)) :=
        List.filter_congr fun u _ => (decide_not (p := u.count = 64)).symm
      rw [hexec, completeTare, completeTare_head, hshort]
      rfl

/-! ## HEAD MAP (R33, R34, R44) -/

/-- R34: readiness, in words. -/
theorem ready_eq (h : Head) (p : Nat) : h.ready p = decide (h.status = .ready ∧ (h.entry p).status = .present
    ∧ (h.entry p).failed = false ∧ (h.entry p).tared = true ∧ (h.entry p).overtemp = false ∧ (h.entry p).drift = false) := by
  rw [Bool.eq_iff_iff]
  simp [Head.ready, and_assoc]

/-- Settles O26, entry by entry. -/
theorem headMapShowsTheTable : Obligations.HeadMapShowsTheTable := by
  intro h s ha kind mount
  have hexec : exec (.headMap h) s = done (serveHeadMap h.link h.tag (heard h s)) := exec_of_admitted rfl ha
  have hmount : (if s.head.enumerated then s.head.orientation.map orientationCode else none) = mount.map orientationCode := by
    simp only [mount]
    split <;> rfl
  rw [hexec, serveHeadMap, heard_head, headMapWire, hmount]
  simp only [entryWire, ready_eq]
  rfl

end Sys2Proof.Machine
end

section
/-! PROOFS. The drive fault and the drive lines (R80, R81). -/

namespace Sys2Proof.Machine

/-! ## What a drive fault ends (R59, R61, R64, R80, R85) -/

/-- R59, R64, R65: the program has ended, and the rest report of it has been made. -/
def programOver (s : State) : State := { s with job := s.job.map (fun j => { j with
  queue := [], run := j.run.map (fun r => { r with ended := true, underrun := false, restMade := true }) }) }

/-- R61, R64, R80, R85: a drive fault ends the step in hand, the program with it, and begins no stop. -/
theorem endStep_driveFault {s : State} {j : Job} {r : Run} {h : InHand} (stop : Int) (drop : Bool) (hj : s.job = some j)
    (hr : j.run = some r) (hh : r.inHand = some h) : endStep .driveFault stop drop s = { s with
      job := some { j with queue := [], run := some { r with
        inHand := none, ended := true, underrun := false, restMade := true } }
      cell := raiseOn (stepNotice r h .driveFault stop) s.cell
      line := raiseOn (stepNotice r h .driveFault stop) s.line
      store := { s.store with records := recordsAfter h .driveFault stop (some .driveFault) s.store.records }
      profile := profileAfter h true s.profile
      monitor := { s.monitor with phase := phaseAfter h true s.monitor.phase } } := by
  have hc : EndCause.driveFault ≠ normalEnd (bodyKind h.record.body) := by
    cases bodyKind h.record.body <;> simp [normalEnd]
  simp only [endStep, run_of_job hj hr, inHand_of_job hj hr hh, hc, if_false, if_true, closeStep_eq _ stop hj hr, endProgram,
    endRecords_eq]
  by_cases hk : bodyKind h.record.body = .press
  · simp [markRest, State.onRun, profileAfter, phaseAfter, hk, Monitor.programEnds]
  · by_cases hw : s.monitor.phase = .watching <;>
      simp [markRest, State.onRun, profileAfter, phaseAfter, hk, hw, Monitor.programEnds]

/-- R59, R64, R80: a drive fault ends a PAUSED program and begins no stop. -/
theorem endPaused_driveFault (drop : Bool) (s : State) : endPaused .driveFault drop s = programOver { s with
    store := { s.store with records := s.store.records.map (fun q =>
      if q.state = .opened then { q with cause := some .driveFault } else q) }
    profile := s.profile.close
    monitor := { s.monitor with phase := if s.monitor.phase = .watching then .settled else s.monitor.phase } } := by
  have hm : s.monitor.programEnds
      = { s.monitor with phase := if s.monitor.phase = .watching then .settled else s.monitor.phase } := by
    unfold Monitor.programEnds
    split <;> rfl
  simp [endPaused, endProgram, markRest, State.onRun, programOver, onOpenRecord, hm, Function.comp_def]

/-! ## The drive fault (R80) -/

/-- R80: the motion block of a drive fault, and RAM_FAULT raised with the state left. -/
def faultTaken (src : FaultSource) (s : State) : State :=
  State.raise { s with motion := { s.motion with
    stroke := .faulted, commanded := 0, ramp := .zero, referenced := false, stop := none, phase := .none
    homing := if s.motion.stroke = .homing then .driveFault else s.motion.homing } } (.ramFault src s.motion.stroke)

section
variable {s : State} (src : FaultSource)

/-- R80: a drive fault in FAULTED is none. -/
theorem driveFault_of_faulted (hf : s.motion.stroke = .faulted) : driveFault src s = s := if_pos hf

/-- R80: a drive fault with a step in hand. -/
theorem driveFault_of_inHand {h : InHand} (hf : s.motion.stroke ≠ .faulted) (hh : s.inHand = some h) :
    driveFault src s = endStep .driveFault s.motion.position false (faultTaken src s) := by
  have hh' : (faultTaken src s).inHand = some h := hh
  exact (if_neg hf).trans (if_pos (congrArg Option.isSome hh'))

/-- R59, R80: a drive fault in PAUSED. -/
theorem driveFault_of_paused (hh : s.inHand = none) (hp : s.motion.stroke = .paused) :
    driveFault src s = endPaused .driveFault false (faultTaken src s) := by
  have hh' : (faultTaken src s).inHand.isSome ≠ true := by simp [show (faultTaken src s).inHand = none from hh]
  exact (if_neg (by simp [hp])).trans ((if_neg hh').trans (if_pos hp))

/-- R65, R80: a drive fault that ends no program makes the rest report of one that has ended. -/
theorem driveFault_of_rest (hf : s.motion.stroke ≠ .faulted) (hh : s.inHand = none) (hp : s.motion.stroke ≠ .paused) :
    driveFault src s = markRest (faultTaken src s) := by
  have hh' : (faultTaken src s).inHand.isSome ≠ true := by simp [show (faultTaken src s).inHand = none from hh]
  exact (if_neg hf).trans ((if_neg hh').trans (if_neg hp))

end

/-- A count latched leaves whether a step is in hand. -/
theorem latched_inHand (enc : Int) (s : State) : (latched enc s).inHand = s.inHand.map (fun h =>
    { h with travelled := h.travelled + (enc - s.motion.enc).natAbs }) := by
  cases hj : s.job with
  | none => simp [State.inHand, State.run, latched, hj]
  | some j => cases hr : j.run <;> simp [State.inHand, State.run, latched, hj, hr]

/-- R59, R80, R85: what a drive fault at a count ends, the motion block having taken the line's level. -/
structure FaultEnds (enc : Int) (s u t : State) : Prop where
  rest : s.inHand = none → s.motion.stroke ≠ .paused → t = { u with job := u.job.map (fun j =>
    { j with run := j.run.map (fun r => { r with restMade := r.restMade || r.ended }) }) }
  paused : s.inHand = none → s.motion.stroke = .paused → t = programOver { u with
    store := { s.store with records := s.store.records.map (fun q =>
      if q.state = .opened then { q with cause := some .driveFault } else q) }
    profile := s.profile.close
    monitor := { s.monitor with phase := if s.monitor.phase = .watching then .settled else s.monitor.phase } }
  hand : ∀ j r h, s.job = some j → j.run = some r → r.inHand = some h →
    let h' : InHand := { h with travelled := h.travelled + (enc - s.motion.enc).natAbs }
    let stepDone := stepNotice r h .driveFault (enc - s.motion.zero)
    t = { u with
      job := some { j with queue := [], run := some { r with
        inHand := none, ended := true, underrun := false, restMade := true } }
      cell := raiseOn stepDone u.cell, line := raiseOn stepDone u.line
      store := { s.store with
        records := recordsAfter h' .driveFault (enc - s.motion.zero) (some .driveFault) s.store.records }
      profile := profileAfter h true s.profile
      monitor := { s.monitor with phase := phaseAfter h true s.monitor.phase } }

/-- R59, R80, R85: a drive fault taken at a count, in any state but FAULTED. -/
theorem driveFault_latched (src : FaultSource) (enc : Int) {s : State} {m : Motion} (hf : s.motion.stroke ≠ .faulted)
    (hstroke : m.stroke = s.motion.stroke) (hpos : m.position = enc - s.motion.zero) :
    FaultEnds enc s (faultTaken src { latched enc s with motion := m })
      (driveFault src { latched enc s with motion := m }) := by
  have hinHand : ({ latched enc s with motion := m } : State).inHand = (latched enc s).inHand := rfl
  rw [latched_inHand] at hinHand
  refine ⟨fun hh hp => ?_, fun hh hp => ?_, fun j r h hj hr hh => ?_⟩
  · rw [driveFault_of_rest src (by simpa [hstroke] using hf) (by simpa [hh] using hinHand) (by simpa [hstroke] using hp)]
    rfl
  · rw [driveFault_of_paused src (by simpa [hh] using hinHand) (by simpa [hstroke] using hp), endPaused_driveFault]
    rfl
  · rw [driveFault_of_inHand src (by simpa [hstroke] using hf) (by simpa [inHand_of_job hj hr hh] using hinHand)]
    have hjob := latched_job enc hj hr hh
    rw [endStep_driveFault (s := faultTaken src { latched enc s with motion := m }) _ _ hjob rfl rfl]
    simp only [hpos]
    rfl

/-- Settles O44: each source latches its count, takes its line's level and then the fault. -/
theorem driveFaultsAreTaken : Obligations.DriveFaultsAreTaken := by
  intro enc s m faulted ended follows
  have hfollows (src : FaultSource) (m' : Motion) (t : State) (hs : m'.stroke = s.motion.stroke)
      (hh : m'.homing = s.motion.homing) (ht : FaultEnds enc s (faultTaken src { latched enc s with motion := m' }) t) :
      follows (faulted src m') t := by
    have hu : faulted src m' = faultTaken src { latched enc s with motion := m' } := by
      simp only [faulted, faultTaken, hs, hh]
    rw [hu]
    exact ⟨ht.rest, ht.paused, ht.hand⟩
  refine ⟨fun hf hready => ?_, fun hready => ?_, fun hf => ?_, fun hst => ?_, fun hf => ⟨?_, fun hready => ?_⟩, rfl, rfl⟩
  · exact ⟨_, hfollows _ _ _ rfl rfl (driveFault_latched .readyLost enc (m := { m with driveReady := false }) hf rfl rfl),
      if_pos hready⟩
  · exact if_neg (by simpa [latched] using hready)
  · exact ⟨_, hfollows _ _ _ rfl rfl (driveFault_latched .faultInput enc (m := { m with faultInput := true }) hf rfl rfl), rfl⟩
  · exact ⟨_, hfollows _ _ _ rfl rfl (driveFault_latched .stopTimeout enc (m := m) (by simp [hst]) rfl rfl), if_pos hst⟩
  · exact congrArg done (driveFault_of_faulted .faultInput
      (s := { latched enc s with motion := { m with faultInput := true } }) hf)
  · exact (if_pos hready).trans (congrArg done (driveFault_of_faulted .readyLost
      (s := { latched enc s with motion := { m with driveReady := false } }) hf))

end Sys2Proof.Machine
end

section
/-! PROOFS. What the invariants of the job unit, the monitor and the profile read of a state (R46, R50 to R59, R95, R102, R106,
R107), and the course of a program in its terms. -/

namespace Sys2Proof.Machine

/-! ## What the invariants read -/

/-- A RUNNING job's part, less what the invariants do not read; of the step in hand, its index and its kind. -/
structure RunView where
  press : Nat
  map : List Nat
  handed : Nat
  hand : Option (Nat × StepKind)
  ended : Bool
  underrun : Bool

/-- What the invariants read of a RUNNING job's part. -/
def Run.view (r : Run) : RunView :=
  { press := r.press, map := r.map, handed := r.handed
    hand := r.inHand.map (fun h => (h.index, bodyKind h.record.body)), ended := r.ended, underrun := r.underrun }

/-- A job, less what the invariants do not read: of the queue its length, of the grammar position and the press accepted mark
whether they tell of a step accepted. -/
structure JobView where
  waiting : Nat
  count : Nat
  begun : Bool
  run : Option RunView

/-- What the invariants read of a job. -/
def Job.view (j : Job) : JobView :=
  { waiting := j.queue.length, count := j.count, begun := decide (j.grammar = .closing) || j.pressAccepted
    run := j.run.map Run.view }

/-- A profile, less what the invariants do not read: of the channels their number. -/
structure ProfileView where
  press : Option Nat
  complete : Bool
  map : List Nat
  touched : Bool
  binning : Bool
  channels : Nat

/-- What the invariants read of the profile. -/
def Profile.view (p : Profile) : ProfileView :=
  { press := p.press, complete := p.complete, map := p.map, touched := p.touch.isSome, binning := p.binning
    channels := p.channels.length }

/-- What the invariants of the job unit and of the monitor read of a state. -/
structure ProgramView where
  job : Option JobView
  stroke : Stroke
  monitor : Monitor
  profile : ProfileView

/-- What the invariants of the job unit and of the monitor read of a state. -/
def programOf (s : State) : ProgramView :=
  { job := s.job.map Job.view, stroke := s.motion.stroke, monitor := s.monitor, profile := s.profile.view }

/-! ## The course of a program (R46, R50 to R59) -/

/-- R67: the stroke states in which no program is in progress. -/
def Stroke.idleOfProgram (st : Stroke) : Prop := st ≠ .running ∧ st ≠ .paused

/-- R50: a program has at most 16 steps, and at least one where the grammar tells of one. -/
def JobView.sized (v : JobView) : Prop := v.count ≤ 16 ∧ (v.begun = true → 1 ≤ v.count)

/-- R46, R57 to R64: how a job and the stroke state go together: no job; a PREPARED one; a step in hand, in RUNNING; none, in
PAUSED; a program that has ended. -/
inductive Course : Option JobView → Stroke → Prop
  | none {st : Stroke} (hst : st.idleOfProgram) : Course none st
  | prepared {v : JobView} {st : Stroke} (hrun : v.run = none) (hwait : v.waiting = v.count) (hsize : v.sized)
      (hst : st.idleOfProgram) : Course (some v) st
  | inHand {v : JobView} {r : RunView} {h : Nat × StepKind} (hrun : v.run = some r) (hhand : r.hand = some h)
      (hended : r.ended = false) (hunder : r.underrun = false) (hindex : h.1 + 1 = r.handed)
      (hwait : r.handed + v.waiting = v.count) (hsize : v.sized) : Course (some v) .running
  | paused {v : JobView} {r : RunView} (hrun : v.run = some r) (hhand : r.hand = none) (hended : r.ended = false)
      (hunder : r.underrun = true) (hwait : v.waiting = 0) (hhanded : r.handed = v.count) (hsize : v.sized) :
      Course (some v) .paused
  | ended {v : JobView} {r : RunView} {st : Stroke} (hrun : v.run = some r) (hhand : r.hand = none) (hended : r.ended = true)
      (hunder : r.underrun = false) (hwait : v.waiting = 0) (hsize : v.sized) (hst : st.idleOfProgram) : Course (some v) st

/-- The course of a state's program. -/
def OnCourse (s : State) : Prop := Course (s.job.map Job.view) s.motion.stroke

theorem sized_view {j : Job} : j.view.sized ↔ j.count ≤ 16 ∧ (j.grammar = .closing ∨ j.pressAccepted = true → 1 ≤ j.count) := by
  simp [JobView.sized, Job.view]

theorem view_hand_eq_none {r : Run} : r.view.hand = none ↔ r.inHand = none := by simp [Run.view]

/-- A state without a job is on course while the stroke is neither RUNNING nor PAUSED. -/
theorem onCourse_of_none {s : State} (hj : s.job = none) : OnCourse s ↔ s.motion.stroke.idleOfProgram := by
  unfold OnCourse
  rw [hj]
  exact ⟨fun h => by cases h; assumption, .none⟩

/-- A PREPARED job is on course while its queue holds every step of its program. -/
theorem onCourse_of_prepared {s : State} {j : Job} (hj : s.job = some j) (hr : j.run = none) :
    OnCourse s ↔ j.queue.length = j.count ∧ j.view.sized ∧ s.motion.stroke.idleOfProgram := by
  have hrun : j.view.run = none := by simp [Job.view, hr]
  unfold OnCourse
  rw [hj]
  constructor
  · intro h
    generalize s.motion.stroke = st at h ⊢
    cases h with
    | prepared _ hwait hsize hst => exact ⟨hwait, hsize, hst⟩
    | _ => simp_all
  · rintro ⟨hwait, hsize, hst⟩
    exact .prepared hrun hwait hsize hst

/-- A RUNNING job is on course with a step in hand, in PAUSED with an empty queue, or with its program ended. -/
theorem onCourse_of_running {s : State} {j : Job} {r : Run} (hj : s.job = some j) (hr : j.run = some r) :
    OnCourse s ↔ j.view.sized ∧
      ((∃ h, r.inHand = some h ∧ r.ended = false ∧ r.underrun = false ∧ h.index + 1 = r.handed
          ∧ r.handed + j.queue.length = j.count ∧ s.motion.stroke = .running)
        ∨ (r.inHand = none ∧ r.ended = false ∧ r.underrun = true ∧ j.queue = [] ∧ r.handed = j.count
          ∧ s.motion.stroke = .paused)
        ∨ (r.inHand = none ∧ r.ended = true ∧ r.underrun = false ∧ j.queue = [] ∧ s.motion.stroke.idleOfProgram)) := by
  have hrun : j.view.run = some r.view := by simp [Job.view, hr]
  have hview {v : RunView} (h : j.view.run = some v) : v = r.view := Option.some.inj (h.symm.trans hrun)
  unfold OnCourse
  rw [hj]
  constructor
  · intro h
    generalize hst : s.motion.stroke = st at h
    cases h with
    | prepared hnone => simp [hrun] at hnone
    | inHand hv hhand hended hunder hindex hwait hsize =>
      obtain rfl := hview hv
      obtain ⟨h, hh, rfl⟩ := Option.map_eq_some_iff.1 hhand
      exact ⟨hsize, .inl ⟨h, hh, hended, hunder, hindex, hwait, rfl⟩⟩
    | paused hv hhand hended hunder hwait hhanded hsize =>
      obtain rfl := hview hv
      exact ⟨hsize, .inr (.inl ⟨view_hand_eq_none.1 hhand, hended, hunder, List.length_eq_zero_iff.1 hwait, hhanded, rfl⟩)⟩
    | ended hv hhand hended hunder hwait hsize hidle =>
      obtain rfl := hview hv
      exact ⟨hsize, .inr (.inr ⟨view_hand_eq_none.1 hhand, hended, hunder, List.length_eq_zero_iff.1 hwait, hidle⟩)⟩
  · rintro ⟨hsize, ⟨h, hh, hended, hunder, hindex, hwait, hst⟩ | ⟨hh, hended, hunder, hq, hhanded, hst⟩
      | ⟨hh, hended, hunder, hq, hst⟩⟩
    · rw [hst]
      exact .inHand hrun (congrArg (Option.map _) hh) hended hunder hindex hwait hsize
    · rw [hst]
      exact .paused hrun (view_hand_eq_none.2 hh) hended hunder (by simp [Job.view, hq]) hhanded hsize
    · exact .ended hrun (view_hand_eq_none.2 hh) hended hunder (by simp [Job.view, hq]) hsize hst

/-- The invariant of the job unit, for a RUNNING job. -/
theorem jobSound_of_running {s : State} {j : Job} {r : Run} (hj : s.job = some j) (hr : j.run = some r)
    (hsize : j.queue.length ≤ 16 ∧ j.count ≤ 16) (hbegun : j.grammar = .closing ∨ j.pressAccepted = true → 1 ≤ j.count)
    (hhanded : r.ended = false → r.handed + j.queue.length = j.count)
    (hended : r.ended = true → j.queue = [] ∧ r.inHand = none) (hindex : ∀ h, r.inHand = some h → h.index + 1 = r.handed)
    (hgoes : r.ended = false → r.inHand.isSome = true ∨ s.motion.stroke = .paused)
    (hpaused : s.motion.stroke = .paused → r.ended = false ∧ r.inHand = none ∧ r.underrun = true ∧ j.queue = [])
    (hunder : r.underrun = true → s.motion.stroke = .paused) : JobSound s := by
  have hrun : s.run = some r := run_of_job hj hr
  have job {i : Job} (hi : s.job = some i) : i = j := Option.some.inj (hi.symm.trans hj)
  have run {i : Job} {q : Run} (hi : s.job = some i) (hq : i.run = some q) : q = r :=
    Option.some.inj (hq.symm.trans (job hi ▸ hr))
  have part {q : Run} (hq : s.run = some q) : q = r := Option.some.inj (hq.symm.trans hrun)
  exact {
    sizes := fun i hi => job hi ▸ hsize
    prepared := fun i hi hn => by rw [job hi, hr] at hn; cases hn
    handed := fun i q hi hq => job hi ▸ run hi hq ▸ hhanded
    ended := fun i q hi hq => job hi ▸ run hi hq ▸ hended
    begun := fun i hi => job hi ▸ hbegun
    index := fun q h hq => part hq ▸ hindex h
    goes := fun q hq => part hq ▸ hgoes
    paused := fun hp => ⟨j, r, hj, hr, hpaused hp⟩
    underrun := fun q hq => part hq ▸ hunder }

/-- The invariant of the job unit, with a step in hand exactly in RUNNING (R68), is the course of the program. -/
theorem onCourse_iff (s : State) :
    OnCourse s ↔ JobSound s ∧ (s.inHand.isSome = true ↔ s.motion.stroke = .running) := by
  cases hj : s.job with
  | none =>
    have hrun : s.run = none := by simp [State.run, hj]
    rw [onCourse_of_none hj]
    constructor
    · rintro ⟨hr, hp⟩
      exact ⟨by constructor <;> simp [hj, hrun, hp], by simp [State.inHand, hrun, hr]⟩
    · rintro ⟨hs, hhand⟩
      exact ⟨fun h => by simp [State.inHand, hrun, h] at hhand, fun h => by simpa [hj] using hs.paused h⟩
  | some j =>
    cases hr : j.run with
    | none =>
      have hrun : s.run = none := by simp [State.run, hj, hr]
      rw [onCourse_of_prepared hj hr, sized_view]
      constructor
      · rintro ⟨hwait, ⟨hcount, hbegun⟩, hst, hp⟩
        have job {i : Job} (hi : s.job = some i) : i = j := Option.some.inj (hi.symm.trans hj)
        have none {i : Job} {r : Run} (hi : s.job = some i) (hq : i.run = some r) : False := by simp [job hi, hr] at hq
        refine ⟨{
          sizes := fun i hi => job hi ▸ ⟨hwait ▸ hcount, hcount⟩
          prepared := fun i hi _ => job hi ▸ hwait
          handed := fun i q hi hq => (none hi hq).elim
          ended := fun i q hi hq => (none hi hq).elim
          begun := fun i hi => job hi ▸ hbegun
          index := fun q h hq => by simp [hrun] at hq
          goes := fun q hq => by simp [hrun] at hq
          paused := fun h => (hp h).elim
          underrun := fun q hq => by simp [hrun] at hq }, by simp [State.inHand, hrun, hst]⟩
      · rintro ⟨hs, hhand⟩
        refine ⟨hs.prepared j hj hr, ⟨(hs.sizes j hj).2, hs.begun j hj⟩, fun h => ?_, fun h => ?_⟩
        · simp [State.inHand, hrun, h] at hhand
        · simpa [hj, hr] using hs.paused h
    | some r =>
      have hrun : s.run = some r := run_of_job hj hr
      have hin : s.inHand = r.inHand := by simp [State.inHand, hrun]
      rw [onCourse_of_running hj hr, sized_view]
      constructor
      · rintro ⟨⟨hcount, hbegun⟩, ⟨h, hh, hended, hunder, hindex, hwait, hst⟩ | ⟨hh, hended, hunder, hq, hhanded, hst⟩
          | ⟨hh, hended, hunder, hq, hst, hp⟩⟩
        · exact ⟨jobSound_of_running hj hr ⟨by omega, hcount⟩ hbegun (by simp [hwait]) (by simp [hended])
            (by simpa [hh] using hindex) (by simp [hh]) (by simp [hst]) (by simp [hunder]), by simp [hin, hh, hst]⟩
        · exact ⟨jobSound_of_running hj hr ⟨by simp [hq], hcount⟩ hbegun (by simp [hq, hhanded]) (by simp [hended]) (by simp [hh])
            (by simp [hst]) (by simp [hended, hh, hunder, hq]) (by simp [hst]), by simp [hin, hh, hst]⟩
        · exact ⟨jobSound_of_running hj hr ⟨by simp [hq], hcount⟩ hbegun (by simp [hended]) (by simp [hq, hh]) (by simp [hh])
            (by simp [hended]) (by simp [hp]) (by simp [hunder]), by simp [hin, hh, hst]⟩
      · rintro ⟨hs, hhand⟩
        refine ⟨⟨(hs.sizes j hj).2, hs.begun j hj⟩, ?_⟩
        have hunder : s.motion.stroke ≠ .paused → r.underrun = false := fun hp => by
          simpa using mt (hs.underrun r hrun) hp
        cases hended : r.ended with
        | true =>
          obtain ⟨hq, hh⟩ := hs.ended j r hj hr hended
          have hidle : s.motion.stroke.idleOfProgram := ⟨fun h => by simp [hin, hh, h] at hhand, fun h => by
            obtain ⟨_, _, hj', hr', hended', _⟩ := hs.paused h
            simp_all⟩
          exact .inr (.inr ⟨hh, rfl, hunder hidle.2, hq, hidle⟩)
        | false =>
          have hwait := hs.handed j r hj hr hended
          cases hh : r.inHand with
          | some h =>
            have hst : s.motion.stroke = .running := hhand.1 (by simp [hin, hh])
            exact .inl ⟨h, rfl, rfl, hunder (by simp [hst]), hs.index r h hrun hh, hwait, hst⟩
          | none =>
            have hst : s.motion.stroke = .paused := by simpa [hh] using hs.goes r hrun hended
            obtain ⟨_, _, hj', hr', _, _, hu, hq⟩ := hs.paused hst
            cases hj.symm.trans hj'
            cases hr.symm.trans hr'
            exact .inr (.inl ⟨rfl, rfl, hu, hq, by simpa [hq] using hwait, hst⟩)

/-! ## The monitor and the profile beside it (R95, R102, R106, R107) -/

/-- R106: what the monitor and the profile hold with no job RUNNING. -/
structure Unwatched (m : Monitor) (p : ProfileView) : Prop where
  phase : m.phase = .inactive
  limits : m.limits = none
  seat : m.seat = m.knee.map (5 * ·)
  binning : p.binning = false

/-- R95, R102, R106, R107: what the monitor and the profile hold beside a RUNNING job's part. -/
structure Watched (r : RunView) (m : Monitor) (p : ProfileView) : Prop where
  awake : m.phase ≠ .inactive
  limits : m.limits.map (·.press) = some r.press
  watching : m.phase = .watching → m.ramCap = none ∧ r.ended = false
  pressing : m.phase = .pressing ↔ ∃ i, r.hand = some (i, .press)
  cap : m.phase = .pressing → m.ramCap.isSome = true
  settled : r.ended = true → m.phase = .settled
  seat : m.seat = m.knee.map (5 * ·)
  complete : p.complete = r.ended
  binning : p.binning = true → p.touched = true ∧ r.ended = false
  profile : p.press = some r.press ∧ p.map = r.map ∧ p.channels = r.map.length + 1

/-- What the monitor and the profile hold beside the running job's part, if there is one. -/
def Watches (m : Monitor) (p : ProfileView) : Option RunView → Prop
  | none => Unwatched m p
  | some r => Watched r m p

/-- A PRESS step is in hand. -/
theorem view_hand_press {r : Run} :
    (∃ i, r.view.hand = some (i, .press)) ↔ ∃ h, r.inHand = some h ∧ bodyKind h.record.body = .press := by
  simp [Run.view]

/-- The invariant of the monitor, in the terms of what it reads. -/
theorem monitorSound_iff (s : State) : MonitorSound s ↔ Watches s.monitor s.profile.view (s.run.map Run.view) := by
  cases hrun : s.run with
  | none =>
    have hin : s.inHand = none := by simp [State.inHand, hrun]
    constructor
    · intro hs
      exact ⟨hs.inactive.2 hrun, by simpa [hrun] using hs.limits, hs.seat,
        show s.profile.binning = false by simpa [hrun] using hs.binning⟩
    · rintro ⟨hphase, hlimits, hseat, hbinning⟩
      constructor <;> simp_all [Profile.view]
  | some r =>
    have hin : s.inHand = r.inHand := by simp [State.inHand, hrun]
    have part {q : Run} (hq : s.run = some q) : q = r := Option.some.inj (hq.symm.trans hrun)
    constructor
    · intro hs
      exact {
        awake := fun h => by simp [hs.inactive.1 h] at hrun
        limits := by simpa [hrun, Run.view] using hs.limits
        watching := fun h => ⟨(hs.watching h).1, (hs.watching h).2 r hrun⟩
        pressing := hs.pressing.trans (hin ▸ view_hand_press.symm)
        cap := hs.cap
        settled := hs.settled r hrun
        seat := hs.seat
        complete := hs.complete r hrun
        binning := fun h => ⟨(hs.binning h).1, by
          obtain ⟨_, q, hq, hended⟩ := hs.binning h
          exact part hq ▸ hended⟩
        profile := hs.channels r hrun }
    · intro hw
      exact {
        inactive := ⟨fun h => (hw.awake h).elim, fun h => by simp [hrun] at h⟩
        limits := by simpa [hrun, Run.view] using hw.limits
        watching := fun h => ⟨(hw.watching h).1, fun q hq => part hq ▸ (hw.watching h).2⟩
        pressing := hw.pressing.trans (hin ▸ view_hand_press)
        cap := hw.cap
        settled := fun q hq => part hq ▸ hw.settled
        seat := hw.seat
        complete := fun q hq => part hq ▸ hw.complete
        binning := fun h => ⟨(hw.binning h).1, r, hrun, (hw.binning h).2⟩
        channels := fun q hq => part hq ▸ hw.profile }

/-- The running job's part as the view of the state shows it. -/
theorem run_view (s : State) : s.run.map Run.view = (programOf s).job.bind (·.run) := by
  cases hj : s.job with
  | none => simp [State.run, programOf, hj]
  | some j => simp [State.run, programOf, hj, Job.view]

/-! ## What keeps both invariants -/

/-- A change of state keeps the course of the program, and on it the invariant of the monitor. -/
def KeepsProgram (s u : State) : Prop := OnCourse s → OnCourse u ∧ (MonitorSound s → MonitorSound u)

section
variable {s u v : State}

theorem keepsProgram_trans (h : KeepsProgram s u) (h' : KeepsProgram u v) : KeepsProgram s v := fun hs =>
  ⟨(h' (h hs).1).1, (h' (h hs).1).2 ∘ (h hs).2⟩

/-- A stroke state outside a program may become another; nothing else that the invariants read has changed. -/
theorem keepsProgram_of_stroke (hjob : u.job.map Job.view = s.job.map Job.view) (hmonitor : u.monitor = s.monitor)
    (hprofile : u.profile.view = s.profile.view) (hs : s.motion.stroke.idleOfProgram)
    (hu : u.motion.stroke.idleOfProgram) : KeepsProgram s u := by
  have hrun : u.run.map Run.view = s.run.map Run.view := by simp only [run_view, programOf, hjob]
  refine fun hc => ⟨?_, fun hm => (monitorSound_iff u).2 (by rw [hrun, hmonitor, hprofile]; exact (monitorSound_iff s).1 hm)⟩
  unfold OnCourse at hc ⊢
  rw [hjob]
  generalize s.motion.stroke = st at hc hs
  generalize s.job.map Job.view = job at hc ⊢
  cases hc with
  | none => exact .none hu
  | prepared hrun hwait hsize => exact .prepared hrun hwait hsize hu
  | inHand => exact (hs.1 rfl).elim
  | paused => exact (hs.2 rfl).elim
  | ended hrun hhand hended hunder hwait hsize => exact .ended hrun hhand hended hunder hwait hsize hu

/-- Nothing that the invariants read has changed. -/
theorem keepsProgram_of_same (h : programOf u = programOf s) : KeepsProgram s u := by
  have hrun : u.run.map Run.view = s.run.map Run.view := by rw [run_view, run_view, h]
  simp only [programOf, ProgramView.mk.injEq] at h
  obtain ⟨hjob, hstroke, hmonitor, hprofile⟩ := h
  refine fun hc => ⟨?_, fun hm => (monitorSound_iff u).2 (by rw [hrun, hmonitor, hprofile]; exact (monitorSound_iff s).1 hm)⟩
  unfold OnCourse at hc ⊢
  rwa [hjob, hstroke]

/-- A change before which nothing that the invariants read has changed. -/
theorem keepsProgram_after (h : KeepsProgram u v) (hu : programOf u = programOf s) : KeepsProgram s v :=
  keepsProgram_trans (keepsProgram_of_same hu) h

/-- A change after which nothing that the invariants read has changed. -/
theorem keepsProgram_before (hv : programOf v = programOf u) (h : KeepsProgram s u) : KeepsProgram s v :=
  keepsProgram_trans h (keepsProgram_of_same hv)

theorem keepsProgram_refl (s : State) : KeepsProgram s s := keepsProgram_of_same rfl

end

end Sys2Proof.Machine
end

section
/-! PROOFS. The program's operations keep the invariants of the job unit and the monitor: hand-over, ends of steps and programs,
stops, drive faults, guards, loss of sensing (R57 to R64, R80 to R84, R111, R167). -/

namespace Sys2Proof.Machine

/-! ## The shared updates of the state -/

@[simp] theorem programOf_onLink (s : State) (l : Link) (f : LinkState → LinkState) :
    programOf (s.onLink l f) = programOf s := by cases l <;> rfl
@[simp] theorem programOf_setRx (s : State) (l : Link) (rx : Receiver) : programOf (s.setRx l rx) = programOf s :=
  programOf_onLink ..
@[simp] theorem programOf_heard (h : Header) (s : State) : programOf (heard h s) = programOf s := programOf_setRx ..
@[simp] theorem programOf_reply (s : State) (l : Link) (tag : Nat) (st : Status) (b : List Wire) :
    programOf (s.reply l tag st b) = programOf s := programOf_onLink ..
@[simp] theorem programOf_refuse (s : State) (l : Link) (tag : Nat) (st : Status) :
    programOf (s.refuse l tag st) = programOf s := programOf_reply ..
@[simp] theorem programOf_raise (s : State) (n : Notice) : programOf (s.raise n) = programOf s := rfl
@[simp] theorem programOf_arbiters (s : State) : programOf s.arbiters = programOf s := rfl
@[simp] theorem programOf_onRecord (s : State) (f : Record → Record) : programOf (s.onRecord f) = programOf s := rfl

/-- A change of the running job's part that the invariants do not read. -/
theorem programOf_onRun (s : State) {f : Run → Run} (hf : ∀ r, (f r).view = r.view) : programOf (s.onRun f) = programOf s := by
  cases hj : s.job with
  | none => simp [programOf, State.onRun, hj]
  | some j => cases hr : j.run <;> simp [programOf, State.onRun, hj, Job.view, hr, hf]

/-- A change of the step in hand that leaves its index and its record. -/
theorem programOf_onHand (s : State) {f : InHand → InHand} (hindex : ∀ h, (f h).index = h.index)
    (hrecord : ∀ h, (f h).record = h.record) : programOf (s.onHand f) = programOf s :=
  programOf_onRun s fun r => by simp [Run.view, Function.comp_def, hindex, hrecord]

@[simp] theorem programOf_latch (s : State) (enc : Int) : programOf (s.latch enc) = programOf s :=
  programOf_onHand _ (fun _ => rfl) (fun _ => rfl)
@[simp] theorem programOf_latched (enc : Int) (s : State) : programOf (latched enc s) = programOf s := programOf_latch s enc
@[simp] theorem programOf_rest (s : State) (enc : Int) : programOf (s.rest enc) = programOf s := programOf_latch s enc
@[simp] theorem programOf_fingersStop (s : State) : programOf (fingersStop s) = programOf s :=
  programOf_onRun s (f := fun r => { r with fingersGone := true }) fun _ => rfl
@[simp] theorem programOf_markRest (s : State) : programOf (markRest s) = programOf s := programOf_onRun s fun _ => rfl

/-! ## Hand-over (R57, R73) -/

/-- R107: a step other than a PRESS leaves the monitor as it is. -/
theorem handOver_monitor_other {b : StepBody} (m : Monitor) (hb : bodyKind b ≠ .press) : m.handOver b = m := by
  cases b with
  | press => exact absurd rfl hb
  | _ => rfl

/-- R107, R108: a PRESS step sets the monitor PRESSING with a ram cap. -/
theorem handOver_monitor_press {b : StepBody} (m : Monitor) (hb : bodyKind b = .press) :
    ∃ cap, m.handOver b = { m with phase := .pressing, ramCap := some cap } := by
  cases b with
  | press => exact ⟨_, rfl⟩
  | _ => cases hb

/-- R57, R107, R108: the monitor beside a step handed over. -/
theorem watched_handOver {r : Run} {m : Monitor} {p : ProfileView} (w : Option Width) (start : Int) (rec : StepRecord)
    (hhand : r.inHand = none) (hended : r.ended = false) (hw : Watched r.view m p) :
    Watched { r with handed := r.handed + 1, inHand := some (takeInHand w start r.handed rec) }.view
      (m.handOver rec.body) p := by
  have hidle : m.phase ≠ .pressing := fun h => by
    obtain ⟨i, hi⟩ := hw.pressing.1 h
    simp [Run.view, hhand] at hi
  by_cases hb : bodyKind rec.body = .press
  · obtain ⟨cap, hm⟩ := handOver_monitor_press m hb
    rw [hm]
    exact { hw with
      awake := nofun
      watching := nofun
      pressing := ⟨fun _ => ⟨r.handed, by simp [Run.view, takeInHand, hb]⟩, fun _ => rfl⟩
      cap := fun _ => rfl
      settled := fun h => by simp [Run.view, hended] at h }
  · rw [handOver_monitor_other m hb]
    exact { hw with
      pressing := ⟨fun h => (hidle h).elim, fun ⟨i, hi⟩ => by simp [Run.view, takeInHand, hb] at hi⟩ }

section
variable {u : State} {j : Job} {r : Run} {rec : StepRecord} {rest : List StepRecord} {w : Option Width} {start : Int}

/-- R57: the program goes on with a step handed over. -/
theorem onCourse_of_handed (hjob : u.job = some { j with queue := rest, run := some { r with
      handed := r.handed + 1, inHand := some (takeInHand w start r.handed rec) } })
    (hst : u.motion.stroke = .running) (hended : r.ended = false) (hunder : r.underrun = false)
    (hwait : r.handed + (rest.length + 1) = j.count) (hsize : j.view.sized) : OnCourse u :=
  (onCourse_of_running hjob rfl).2 ⟨hsize, .inl ⟨_, rfl, hended, hunder, rfl, by simp only; omega, hst⟩⟩

/-- R57, R107, R108: the monitor beside it. -/
theorem monitorSound_of_handed {m : Monitor} (hjob : u.job = some { j with queue := rest, run := some { r with
      handed := r.handed + 1, inHand := some (takeInHand w start r.handed rec) } })
    (hm : u.monitor = m.handOver rec.body) (hhand : r.inHand = none) (hended : r.ended = false)
    (hw : Watched r.view m u.profile.view) : MonitorSound u := by
  rw [monitorSound_iff, run_of_job hjob rfl, hm]
  exact watched_handOver w start rec hhand hended hw

end

/-- R57, R73: what a hand-over does. -/
theorem handOver_eq {s : State} {j : Job} {r : Run} {rec : StepRecord} {rest : List StepRecord} (hj : s.job = some j)
    (hr : j.run = some r) (hq : j.queue = rec :: rest) : handOver s = { s with
      job := some { j with
        queue := rest
        run := some { r with
          handed := r.handed + 1, inHand := some (takeInHand s.head.width s.motion.position r.handed rec) } }
      motion := { s.motion with
        stroke := .running, commanded := commandOf s.head.width s.motion.position rec.body }
      monitor := s.monitor.handOver rec.body } := by
  simp only [handOver, hj, hr, hq]

/-! ## The end of a program (R61, R64, R82) -/

/-- R102: what the invariants read of a profile when its program ends. -/
theorem view_close (p : Profile) : p.close.view = { p.view with complete := true, binning := false } := by
  unfold Profile.close
  cases p.deepest <;> simp [Profile.view]

/-- R98, R102: what the invariants read of a profile when the step in hand ends, and the program with it or not. -/
theorem view_profileAfter (h : InHand) (ended : Bool) (p : Profile) : (profileAfter h ended p).view =
    if ended then { p.view with complete := true, binning := false } else p.view := by
  unfold profileAfter
  cases ended <;> split <;> simp only [view_close, if_true, Bool.false_eq_true, if_false] <;> rfl

/-- R107: at the end of a program with its step in hand, the monitor is SETTLED. -/
theorem phaseAfter_settled {r : Run} {h : InHand} {m : Monitor} {p : ProfileView} (hh : r.inHand = some h)
    (hw : Watched r.view m p) : phaseAfter h true m.phase = .settled := by
  unfold phaseAfter
  split
  · rfl
  · next hk =>
    have hidle : m.phase ≠ .pressing := fun hp => by
      obtain ⟨i, hi⟩ := hw.pressing.1 hp
      exact hk (by simpa [Run.view, hh] using congrArg (Option.map Prod.snd) hi)
    have hawake := hw.awake
    generalize m.phase = phase at *
    cases phase <;> simp_all

/-- R107: at the end of a program with no step in hand, the monitor is SETTLED. -/
theorem phase_settled_of_paused {r : Run} {m : Monitor} {p : ProfileView} (hh : r.inHand = none) (hw : Watched r.view m p) :
    (if m.phase = .watching then .settled else m.phase) = Phase.settled := by
  have hidle : m.phase ≠ .pressing := fun hp => by
    obtain ⟨i, hi⟩ := hw.pressing.1 hp
    simp [Run.view, hh] at hi
  have hawake := hw.awake
  generalize m.phase = phase at *
  cases phase <;> simp_all

/-- R64, R102, R107: the monitor and the profile of a program that has ended. -/
theorem watched_ended {r r' : RunView} {m : Monitor} {p : ProfileView} (hpress : r'.press = r.press) (hmap : r'.map = r.map)
    (hended : r'.ended = true) (hhand : r'.hand = none) (hw : Watched r m p) :
    Watched r' { m with phase := .settled } { p with complete := true, binning := false } where
  awake := nofun
  limits := hpress ▸ hw.limits
  watching := nofun
  pressing := ⟨nofun, fun ⟨i, hi⟩ => by simp [hhand] at hi⟩
  cap := nofun
  settled := fun _ => rfl
  seat := hw.seat
  complete := hended.symm
  binning := nofun
  profile := by rw [hpress, hmap]; exact hw.profile

/-- The monitor and the profile beside the running job's part of a sound state. -/
theorem watched_of_sound {s : State} {r : Run} (hrun : s.run = some r) (hm : MonitorSound s) :
    Watched r.view s.monitor s.profile.view := by
  simpa [Watches, hrun] using (monitorSound_iff s).1 hm

section
variable {s u : State} {j : Job} {r : Run}

/-- R61, R64, R107: a program with its step in hand, or PAUSED, ends and leaves the stroke outside a program. -/
theorem keepsProgram_of_end {r' : Run} {phase : Phase} (hj : s.job = some j) (hr : j.run = some r)
    (hjob : u.job = some { j with queue := [], run := some r' })
    (hpress : r'.press = r.press) (hmap : r'.map = r.map) (hended : r'.ended = true) (hhand : r'.inHand = none)
    (hunder : r'.underrun = false)
    (hst : u.motion.stroke.idleOfProgram) (hmonitor : u.monitor = { s.monitor with phase := phase })
    (hphase : Watched r.view s.monitor s.profile.view → phase = .settled)
    (hprofile : u.profile.view = { s.profile.view with complete := true, binning := false }) : KeepsProgram s u := by
  refine fun hc => ⟨?_, fun hm => ?_⟩
  · obtain ⟨hsize, _⟩ := (onCourse_of_running hj hr).1 hc
    exact (onCourse_of_running hjob rfl).2 ⟨hsize, .inr (.inr ⟨hhand, hended, hunder, rfl, hst⟩)⟩
  · have hw := watched_of_sound (run_of_job hj hr) hm
    rw [monitorSound_iff, run_of_job hjob rfl, hmonitor, hphase hw, hprofile]
    exact watched_ended (r := r.view) (r' := r'.view) hpress hmap hended (view_hand_eq_none.2 hhand) hw

/-- R57, R61, R64: an abort cause of the step in hand keeps the invariants. -/
theorem keepsProgram_of_aborted {drop : Bool} {h : InHand} {c : EndCause} {stop : Int} (hj : s.job = some j)
    (hr : j.run = some r) (hh : r.inHand = some h) (ha : Aborted drop r h c stop s u) : KeepsProgram s u := by
  have hjob := ha.job
  rw [hj] at hjob
  exact keepsProgram_of_end hj hr hjob rfl rfl rfl rfl rfl (by rw [ha.motion]; exact ⟨nofun, nofun⟩) ha.monitor
    (phaseAfter_settled hh) (by rw [ha.profile, view_profileAfter]; rfl)

/-- R59, R64, R82, R83: the follow-on of a PAUSED program's end. -/
theorem idleOfProgram_of_pauseEnded {drop : Bool} {c : EndCause} (he : PauseEnded drop j r c s u) :
    u.motion.stroke.idleOfProgram := by
  by_cases hrest : rests s
  · by_cases hretracts : followOf c = .retract ∧ s.openSet = [] ∧ s.motion.position ≠ 0
    · obtain ⟨hf, hg, hp⟩ := hretracts
      rw [he.retracts hrest hf hg hp]
      exact ⟨nofun, nofun⟩
    · rw [he.stays hrest (by tauto)]
      exact ⟨nofun, nofun⟩
  · rw [he.stops hrest]
    exact ⟨nofun, nofun⟩

/-- R59, R61, R64: an abort cause that reaches a PAUSED program keeps the invariants. -/
theorem keepsProgram_of_pauseEnded {drop : Bool} {c : EndCause} (hj : s.job = some j) (hr : j.run = some r)
    (hh : r.inHand = none) (he : PauseEnded drop j r c s u) : KeepsProgram s u :=
  keepsProgram_of_end hj hr he.job rfl rfl rfl hh rfl (idleOfProgram_of_pauseEnded he) he.monitor
    (phase_settled_of_paused hh) (by rw [he.profile, view_close])

/-- R57, R107: the monitor between two steps of a program. -/
theorem watched_stepClosed {r' : Run} {h : InHand} {m : Monitor} {p : ProfileView} (hh : r.inHand = some h)
    (hpress : r'.press = r.press) (hmap : r'.map = r.map) (hhand : r'.inHand = none) (hended : r.ended = false)
    (hended' : r'.ended = false) (hw : Watched r.view m p) :
    Watched r'.view { m with phase := phaseAfter h false m.phase } p := by
  have hnot : r'.view.ended = false := hended'
  have hnone : r'.view.hand = none := view_hand_eq_none.2 hhand
  have hcomplete : p.complete = r'.view.ended := by rw [hw.complete, hnot]; exact hended
  have hprofile : p.press = some r'.press ∧ p.map = r'.map ∧ p.channels = r'.map.length + 1 := by
    rw [hpress, hmap]; exact hw.profile
  have hlimits : m.limits.map (·.press) = some r'.press := hpress ▸ hw.limits
  have hbinning : p.binning = true → p.touched = true ∧ r'.view.ended = false := fun hb => ⟨(hw.binning hb).1, hnot⟩
  by_cases hk : bodyKind h.record.body = .press
  · have hphase : phaseAfter h false m.phase = .settled := if_pos hk
    rw [hphase]
    exact ⟨nofun, hlimits, nofun, ⟨nofun, fun ⟨i, hi⟩ => by simp [hnone] at hi⟩, nofun, fun _ => rfl, hw.seat, hcomplete,
      hbinning, hprofile⟩
  · have hphase : phaseAfter h false m.phase = m.phase := by simp [phaseAfter, hk]
    have hidle : m.phase ≠ .pressing := fun hp => by
      obtain ⟨i, hi⟩ := hw.pressing.1 hp
      exact hk (by simpa [Run.view, hh] using congrArg (Option.map Prod.snd) hi)
    rw [hphase]
    exact ⟨hw.awake, hlimits, fun hp => ⟨(hw.watching hp).1, hnot⟩,
      ⟨fun hp => (hidle hp).elim, fun ⟨i, hi⟩ => by simp [hnone] at hi⟩, fun hp => (hidle hp).elim,
      fun he => by simp [hnot] at he, hw.seat, hcomplete, hbinning, hprofile⟩

/-- R57: a step in hand, on course. -/
theorem onCourse_inHand {h : InHand} (hj : s.job = some j) (hr : j.run = some r) (hh : r.inHand = some h) (hc : OnCourse s) :
    j.view.sized ∧ r.ended = false ∧ r.underrun = false ∧ r.handed + j.queue.length = j.count := by
  obtain ⟨hsize, ⟨_, _, hended, hunder, _, hwait, _⟩ | ⟨hnone, _⟩ | ⟨hnone, _⟩⟩ := (onCourse_of_running hj hr).1 hc
  · exact ⟨hsize, hended, hunder, hwait⟩
  · simp [hh] at hnone
  · simp [hh] at hnone

/-- R57 to R59: a normal end of the step in hand keeps the invariants. -/
theorem keepsProgram_of_goesOn {h : InHand} {c : EndCause} {stop : Int} (hj : s.job = some j)
    (hr : j.run = some r) (hh : r.inHand = some h) (hg : GoesOn j r h c stop s u) : KeepsProgram s u := by
  have hprofile := congrArg Profile.view hg.profile
  rw [view_profileAfter] at hprofile
  cases hl : h.record.last with
  | true =>
    obtain ⟨hjob, hmotion, hmonitor, _⟩ := hg.ended hl
    exact keepsProgram_of_end hj hr hjob rfl rfl rfl rfl rfl (by rw [hmotion]; exact ⟨nofun, nofun⟩) hmonitor
      (phaseAfter_settled hh) (by rw [hprofile, hl]; rfl)
  | false =>
    have hsame : u.profile.view = s.profile.view := by rw [hprofile, hl]; rfl
    intro hc
    obtain ⟨hsize, hended, hunder, hwait⟩ := onCourse_inHand hj hr hh hc
    cases hq : j.queue with
    | nil =>
      obtain ⟨hjob, hmotion, hmonitor, _⟩ := hg.pauses hl hq
      refine ⟨(onCourse_of_running hjob rfl).2 ⟨hsize, .inr (.inl ⟨rfl, hended, rfl, hq, by simpa [hq] using hwait, ?_⟩)⟩,
        fun hm => ?_⟩
      · rw [hmotion]
      · rw [monitorSound_iff, run_of_job hjob rfl, hmonitor, hsame]
        exact watched_stepClosed hh rfl rfl rfl hended hended (watched_of_sound (run_of_job hj hr) hm)
    | cons rec rest =>
      obtain ⟨hjob, hmotion, hmonitor, _⟩ := hg.nextStep hl rec rest hq
      refine ⟨onCourse_of_handed (r := { r with inHand := none }) hjob (by rw [hmotion]) hended hunder
        (by simpa [hq] using hwait) hsize, fun hm => ?_⟩
      refine monitorSound_of_handed (r := { r with inHand := none }) hjob hmonitor rfl hended ?_
      rw [hsame]
      exact watched_stepClosed hh rfl rfl rfl hended hended (watched_of_sound (run_of_job hj hr) hm)

/-- A running job with a step in hand. -/
theorem job_of_inHand {h : InHand} (hh : s.inHand = some h) : ∃ j r, s.job = some j ∧ j.run = some r ∧ r.inHand = some h := by
  obtain ⟨r, hrun, hh⟩ := Option.bind_eq_some_iff.1 hh
  obtain ⟨j, hj, hr⟩ := Option.bind_eq_some_iff.1 hrun
  exact ⟨j, r, hj, hr, hh⟩

/-- R57, R61: the end of the step in hand with any cause but a drive fault. -/
theorem endStep_keeps_program {c : EndCause} (stop : Int) (drop : Bool) (s : State) (hd : c ≠ .driveFault) :
    KeepsProgram s (endStep c stop drop s) := by
  cases hh : s.inHand with
  | none =>
    have hnone : endStep c stop drop s = s := by
      unfold endStep
      split
      · next hsome => simp [hh] at hsome
      · rfl
    rw [hnone]
    exact keepsProgram_refl s
  | some h =>
    obtain ⟨j, r, hj, hr, hh⟩ := job_of_inHand hh
    by_cases hc : c = normalEnd (bodyKind h.record.body)
    · rw [hc]
      exact keepsProgram_of_goesOn hj hr hh (endStep_goes_on stop drop hj hr hh)
    · exact keepsProgram_of_aborted hj hr hh (endStep_aborts c stop drop hj hr hh hc hd)

/-- R59: the job of a PAUSED program. -/
theorem job_of_paused (hp : s.motion.stroke = .paused) (hc : OnCourse s) :
    ∃ j r, s.job = some j ∧ j.run = some r ∧ r.inHand = none ∧ r.ended = false := by
  obtain ⟨hs, _⟩ := (onCourse_iff s).1 hc
  obtain ⟨j, r, hj, hr, hended, hh, _⟩ := hs.paused hp
  exact ⟨j, r, hj, hr, hh, hended⟩

/-- R59, R61: the end of a PAUSED program with any cause but a drive fault. -/
theorem endPaused_keeps_program {c : EndCause} (drop : Bool) (hd : c ≠ .driveFault) (hp : s.motion.stroke = .paused) :
    KeepsProgram s (endPaused c drop s) := fun hc => by
  obtain ⟨j, r, hj, hr, hh, _⟩ := job_of_paused hp hc
  exact keepsProgram_of_pauseEnded hj hr hh (endPaused_ends c drop hj hr hp hd) hc

/-- R59, R61: an abort cause that reaches the program. -/
theorem interrupt_keeps_program {c : EndCause} (drop : Bool) (s : State) (hd : c ≠ .driveFault) :
    KeepsProgram s (interrupt c drop s) := by
  unfold interrupt
  split
  · exact endStep_keeps_program _ drop s hd
  · split
    · next hp => exact endPaused_keeps_program drop hd hp
    · exact keepsProgram_refl s

/-! ## Stops, drive faults, guards, loss of sensing -/

/-- R82: a stop begun outside a program. -/
theorem beginStop_keeps_program (c : StopCause) (rate : Nat) (drop : Bool) (f : FollowOn) (hs : s.motion.stroke.idleOfProgram) :
    KeepsProgram s (beginStop c rate drop f s) := keepsProgram_of_stroke rfl rfl rfl hs ⟨nofun, nofun⟩

/-- R71: the early end of a homing. -/
theorem endHoming_keeps_program (r : HomingResult) (drop : Bool) (hs : s.motion.stroke.idleOfProgram) :
    KeepsProgram s (endHoming r drop s) := keepsProgram_of_stroke rfl rfl rfl hs ⟨nofun, nofun⟩

/-- R83, R84: the rest report made as the stroke enters a state outside a program. -/
theorem markRest_keeps_program {v : State} (hv : programOf v = { programOf s with stroke := v.motion.stroke })
    (hs : s.motion.stroke.idleOfProgram) (hu : v.motion.stroke.idleOfProgram) : KeepsProgram s (markRest v) := by
  have h := (programOf_markRest v).trans hv
  simp only [programOf, ProgramView.mk.injEq] at h
  obtain ⟨hjob, _, hmonitor, hprofile⟩ := h
  exact keepsProgram_of_stroke hjob hmonitor hprofile hs hu

/-- R83: the follow-on of a stop. -/
theorem takeFollowOn_keeps_program (hs : s.motion.stroke.idleOfProgram) : KeepsProgram s (takeFollowOn s) := by
  unfold takeFollowOn
  split
  · exact keepsProgram_refl s
  · split
    · exact keepsProgram_of_stroke rfl rfl rfl hs ⟨nofun, nofun⟩
    · exact markRest_keeps_program rfl hs ⟨nofun, nofun⟩
    · split
      · exact keepsProgram_of_stroke rfl rfl rfl hs ⟨nofun, nofun⟩
      · exact markRest_keeps_program rfl hs ⟨nofun, nofun⟩

/-- R64, R65: the job whose program is over. -/
theorem programOver_job {v : State} {i : Job} {q : Run} (hi : v.job = some i) (hq : i.run = some q) : (programOver v).job =
    some { i with queue := [], run := some { q with ended := true, underrun := false, restMade := true } } := by
  simp [programOver, hi, hq]

/-- R80: a drive fault. -/
theorem driveFault_keeps_program (src : FaultSource) (s : State) : KeepsProgram s (driveFault src s) := by
  by_cases hf : s.motion.stroke = .faulted
  · rw [driveFault_of_faulted src hf]
    exact keepsProgram_refl s
  · cases hh : s.inHand with
    | some h =>
      obtain ⟨j, r, hj, hr, hin⟩ := job_of_inHand hh
      rw [driveFault_of_inHand src hf hh, endStep_driveFault (s := faultTaken src s) _ _ hj hr hin]
      exact keepsProgram_of_end hj hr rfl rfl rfl rfl rfl rfl ⟨nofun, nofun⟩ rfl (phaseAfter_settled hin)
        (view_profileAfter h true s.profile)
    | none =>
      intro hc
      by_cases hp : s.motion.stroke = .paused
      · obtain ⟨j, r, hj, hr, hin, _⟩ := job_of_paused hp hc
        rw [driveFault_of_paused src hh hp, endPaused_driveFault]
        have hjob : (faultTaken src s).job = some j := hj
        exact keepsProgram_of_end hj hr (programOver_job hjob hr) rfl rfl rfl hin rfl ⟨nofun, nofun⟩ rfl
          (phase_settled_of_paused hin) (view_close s.profile) hc
      · have hrun : s.motion.stroke ≠ .running := fun h => by
          simpa [hh] using ((onCourse_iff s).1 hc).2.2 h
        rw [driveFault_of_rest src hf hh hp]
        exact markRest_keeps_program rfl ⟨hrun, hp⟩ ⟨nofun, nofun⟩ hc

/-- R167: an input's entry into the open-guard set. -/
theorem guardEntry_keeps_program (k : GuardKind) (s : State) : KeepsProgram s (guardEntry k s) := by
  simp only [guardEntry]
  split
  case h_2 hst => exact endHoming_keeps_program _ _ (hst ▸ ⟨nofun, nofun⟩)
  case h_4 => exact interrupt_keeps_program _ s nofun
  case h_5 => exact interrupt_keeps_program _ s nofun
  case h_6 => split <;> exact keepsProgram_of_same rfl
  case h_7 hst => exact beginStop_keeps_program _ _ _ _ (hst ▸ ⟨nofun, nofun⟩)
  all_goals exact keepsProgram_refl s

/-- R111: a loss of sensing. -/
theorem sensingLost_keeps_program (s : State) : KeepsProgram s (sensingLost s) := by
  unfold sensingLost
  split
  · exact interrupt_keeps_program _ s nofun
  · exact interrupt_keeps_program _ s nofun
  · exact keepsProgram_refl s
  · exact keepsProgram_refl s

/-- R88, R111: the head leaves READY. -/
theorem leaveReady_keeps_program (s : State) : KeepsProgram s (leaveReady s) :=
  keepsProgram_after (u := fingersStop s) (sensingLost_keeps_program _) (programOf_fingersStop s)

end

end Sys2Proof.Machine
end

section
/-! PROOFS. The events of the equipment keep the invariants of the job unit and the monitor: samples, the head, the ends of steps
that the motion block sees, the guards, the rest report (R22 to R42, R65, R71 to R92, R107 to R116, R163 to R167). -/

namespace Sys2Proof.Machine

/-! ## Binning (R96, R97, R100) -/

/-- R96: a sample binned leaves what the invariants read of a profile. -/
@[simp] theorem view_bin (p : Profile) (ch : Nat) (position : Int) (value : Nat) (suspect : Bool) :
    (p.bin ch position value suspect).view = p.view := by
  unfold Profile.bin
  split
  · rfl
  · split
    · rfl
    · simp [Profile.view, Profile.onChannel]

/-- R100: a ram sample binned leaves what the invariants read of a profile. -/
@[simp] theorem view_binRam (p : Profile) (position : Int) (value : Nat) (suspect : Bool) :
    (p.binRam position value suspect).1.view = p.view := by
  have hbin (q : Profile) (l : Option Nat) :
      { q.bin 0 position value suspect with leading := l }.view = (q.bin 0 position value suspect).view := rfl
  unfold Profile.binRam
  split
  · rfl
  · split
    · rfl
    · split
      · exact (hbin _ _).trans (view_bin ..)
      · split
        · refine (hbin _ _).trans ((view_bin ..).trans ?_)
          simp [Profile.view, Profile.onChannel]
        · exact view_bin ..

/-- R88, R97: a finger frame binned leaves what the invariants read of a profile. -/
theorem view_binFingers (map : List Nat) (position : Int) (finger : List (Nat × FingerSample)) (p : Profile) :
    (binFingers map position finger p).view = p.view := by
  unfold binFingers
  split
  · next hbinning =>
    clear hbinning
    generalize map.zipIdx = columns
    induction columns generalizing p with
    | nil => rfl
    | cons c columns ih =>
      refine (ih _).trans ?_
      simp only
      split
      · exact view_bin ..
      · rfl
  · rfl

/-- A profile with the same view. -/
theorem programOf_withProfile {s : State} {p : Profile} (h : p.view = s.profile.view) :
    programOf { s with profile := p } = programOf s := by
  simp [programOf, h]

/-! ## Samples (R35, R36, R87 to R92, R107 to R116) -/

section
variable {s : State}

@[simp] theorem programOf_raisePeaks (value : Nat) (s : State) : programOf (raisePeaks value s) = programOf s := by
  unfold raisePeaks
  split
  · exact (programOf_onRecord _ _).trans (programOf_onHand _ (fun _ => rfl) (fun _ => rfl))
  · rfl

/-- R90: the profile may take touch, and begin to bin, while a program is in progress. -/
theorem keepsProgram_of_touch {u : State} {r : Run} {b : Bool} (hrun : s.run = some r) (hended : r.ended = false)
    (hu : programOf u = { programOf s with profile := { s.profile.view with touched := true, binning := b } }) :
    KeepsProgram s u := by
  have hview : u.run.map Run.view = s.run.map Run.view := by rw [run_view, run_view, hu]
  simp only [programOf, ProgramView.mk.injEq] at hu
  obtain ⟨hjob, hstroke, hmonitor, hprofile⟩ := hu
  refine fun hc => ⟨?_, fun hm => ?_⟩
  · unfold OnCourse at hc ⊢
    rwa [hjob, hstroke]
  · rw [monitorSound_iff, hview, hmonitor, hprofile, hrun]
    exact { watched_of_sound hrun hm with binning := fun _ => ⟨rfl, hended⟩ }

/-- R90, R91: touch taken while a step is in hand. -/
theorem takeTouch_keeps_program {h : InHand} (a b : Nat) (position : Int) (value : Nat) (suspect : Bool)
    (hh : s.inHand = some h) : KeepsProgram s (takeTouch a b position value suspect s) := by
  intro hc
  obtain ⟨j, r, hj, hr, hin⟩ := job_of_inHand hh
  obtain ⟨_, hended, _⟩ := onCourse_inHand hj hr hin hc
  have hrun := run_of_job hj hr
  simp only [takeTouch]
  split
  · refine keepsProgram_trans (keepsProgram_of_touch (b := true) hrun hended ?_) (endStep_keeps_program _ _ _ nofun) hc
    exact (programOf_onRecord _ _).trans (by simp only [programOf, view_binRam]; rfl)
  · refine keepsProgram_trans (keepsProgram_of_touch (b := s.profile.binning) hrun hended ?_)
      (endStep_keeps_program _ _ _ nofun) hc
    rfl

/-- R114, R115: the knee is recorded with its depth. -/
theorem keepsProgram_of_knee (k : Nat) :
    KeepsProgram s { s with monitor := { s.monitor with knee := some k, seat := some (5 * k) } } := fun hc =>
  ⟨hc, fun hm => ⟨hm.inactive, hm.limits, hm.watching, hm.pressing, hm.cap, hm.settled, rfl, hm.complete, hm.binning,
    hm.channels⟩⟩

/-- R115: a knee ends the PRESS step with one of three causes. -/
theorem kneeCause_ne_driveFault (lim : Limits) (depth : Nat) : kneeCause lim depth ≠ .driveFault := by
  unfold kneeCause
  split
  · nofun
  · split <;> nofun

/-- R114, R115: the knee. -/
theorem takeKnee_keeps_program (lim : Limits) (k : Nat) (position : Int) : KeepsProgram s (takeKnee lim k position s) := by
  simp only [takeKnee]
  refine keepsProgram_trans (keepsProgram_of_knee k)
    (keepsProgram_after (endStep_keeps_program _ _ _ (kneeCause_ne_driveFault _ _)) ?_)
  split <;> rfl

/-- R108 to R116: the ram tests. -/
theorem ramTests_keeps_program (position : Int) (value : Nat) (completed : List Completion) :
    KeepsProgram s (ramTests position value completed s) := by
  unfold ramTests
  split
  · split
    · exact endStep_keeps_program _ _ _ nofun
    · split
      · exact takeKnee_keeps_program _ _ _
      · split
        · exact endStep_keeps_program _ _ _ nofun
        · exact keepsProgram_refl s
  · exact keepsProgram_refl s

/-- R89: touch detection is armed by a step in hand. -/
theorem inHand_of_armed {a b : Nat} (h : armed s = some (a, b)) : ∃ hand, s.inHand = some hand := by
  unfold armed at h
  split at h
  · next hand hh => exact ⟨hand, hh⟩
  · cases h

/-- R87: what a ram sample does in a press. -/
theorem useRamSample_keeps_program (position : Int) (value : Nat) (suspect : Bool) :
    KeepsProgram s (useRamSample position value suspect s) := by
  simp only [useRamSample]
  split
  · next a b harmed =>
    obtain ⟨h, hh⟩ := inHand_of_armed harmed
    split
    · exact takeTouch_keeps_program _ _ _ _ _ hh
    · exact keepsProgram_refl s
  · have hbin : KeepsProgram s { s with profile :=
        (if s.profile.binning then s.profile.binRam position value suspect else (s.profile, [])).1 } :=
      keepsProgram_of_same (programOf_withProfile (by split <;> simp))
    split
    · exact keepsProgram_trans hbin (ramTests_keeps_program _ _ _)
    · exact hbin

/-- R87: a ram sample. -/
theorem takeRamSample_keeps_program (raw enc : Int) (s : State) : KeepsProgram s (takeRamSample raw enc s) := by
  have hlatch : programOf ((tick s).latch enc) = programOf s := programOf_latch (tick s) enc
  simp only [takeRamSample]
  split
  · exact keepsProgram_after (useRamSample_keeps_program _ _ _) ((programOf_raisePeaks _ _).trans hlatch)
  · exact keepsProgram_of_same hlatch

/-- R88, R110: what a finger frame does in a press. -/
theorem useFinger_keeps_program (r : Run) (finger : List (Nat × FingerSample)) (s : State) :
    KeepsProgram s (useFinger r finger s) := by
  have hbin : KeepsProgram s (if r.fingersGone then s
      else { s with profile := binFingers r.map s.motion.position finger s.profile }) := by
    split
    · exact keepsProgram_refl s
    · exact keepsProgram_of_same (programOf_withProfile (view_binFingers ..))
  simp only [useFinger]
  split
  · split
    · exact keepsProgram_trans hbin (endStep_keeps_program _ _ _ nofun)
    · exact hbin
  · exact hbin

/-- R112: the failure of a position. -/
theorem positionFailed_keeps_program (p : Nat) (s : State) : KeepsProgram s (positionFailed p s) := by
  unfold positionFailed
  split
  · exact keepsProgram_after (sensingLost_keeps_program _) (programOf_onRecord s _)
  · exact keepsProgram_refl s

/-- R38, R39, R112: an alert. -/
theorem takeAlert_keeps_program (s : State) (a : Alert) : KeepsProgram s (takeAlert s a) := by
  simp only [takeAlert]
  split
  · exact keepsProgram_of_same rfl
  · split
    · exact keepsProgram_after (positionFailed_keeps_program _ _) rfl
    · exact keepsProgram_of_same rfl

theorem takeAlerts_keep_program (alerts : List Alert) (s : State) : KeepsProgram s (alerts.foldl takeAlert s) := by
  induction alerts generalizing s with
  | nil => exact keepsProgram_refl s
  | cons a alerts ih => exact keepsProgram_trans (takeAlert_keeps_program s a) (ih _)

/-- R35: a frame instant. -/
theorem takeFrameInstant_keeps_program (enc : Int) (frames : List LaneFrame) (s : State) :
    KeepsProgram s (takeFrameInstant enc frames s) := by
  have hlatch := programOf_latch s enc
  simp only [takeFrameInstant]
  refine keepsProgram_trans ?_ (takeAlerts_keep_program _ _)
  split
  · exact keepsProgram_after (useFinger_keeps_program _ _ _) hlatch
  · exact keepsProgram_of_same hlatch

/-! ## The head (R22 to R42) -/

@[simp] theorem programOf_abortTare (s : State) : programOf (abortTare s) = programOf s := by
  unfold abortTare
  split
  · rfl
  · exact programOf_refuse ..

/-- R26: a training run begins. -/
theorem beginTraining_keeps_program (a : Nat) (s : State) : KeepsProgram s (beginTraining a s) := by
  have htare := programOf_abortTare s
  simp only [beginTraining]
  split
  · exact keepsProgram_after (leaveReady_keeps_program _) htare
  · exact keepsProgram_of_same htare

/-- R24: a detach. -/
theorem detach_keeps_program (s : State) : KeepsProgram s (detach s) := by
  have htare := programOf_abortTare s
  simp only [detach]
  split
  · exact keepsProgram_after (leaveReady_keeps_program _) htare
  · exact keepsProgram_of_same htare

@[simp] theorem programOf_trainingSuccess (s : State) : programOf (trainingSuccess s) = programOf s := by
  simp only [trainingSuccess]
  split <;> rfl

@[simp] theorem programOf_trainingTimeout (passed : List Nat) (s : State) :
    programOf (trainingTimeout passed s) = programOf s := by
  simp only [trainingTimeout]
  split <;> rfl

@[simp] theorem programOf_descriptorAnswered (kind : Nat) (o : Orientation) (s : State) :
    programOf (descriptorAnswered kind o s) = programOf s := by
  unfold descriptorAnswered
  split <;> rfl

@[simp] theorem programOf_completeTare (t : Tare) (s : State) : programOf (completeTare t s) = programOf s :=
  programOf_reply ..

/-! ## The ends of steps that the motion block sees (R74, R75, R77 to R79), retracts (R84) -/

theorem takeMoveReached_keeps_program (s : State) : KeepsProgram s (takeMoveReached s) := by
  unfold takeMoveReached
  split
  · split
    · exact keepsProgram_after (endStep_keeps_program _ _ _ nofun) rfl
    · exact keepsProgram_refl s
  · exact keepsProgram_refl s

theorem takeProbeArrival_keeps_program (s : State) : KeepsProgram s (takeProbeArrival s) := by
  unfold takeProbeArrival
  split
  · split
    · exact keepsProgram_after (endStep_keeps_program _ _ _ nofun) rfl
    · exact keepsProgram_refl s
  · exact keepsProgram_refl s

theorem takeStall_keeps_program (s : State) : KeepsProgram s (takeStall s) := by
  unfold takeStall
  split
  · exact keepsProgram_refl s
  · split
    case h_1 => exact interrupt_keeps_program _ s nofun
    case h_2 hst => exact endHoming_keeps_program _ _ (hst ▸ ⟨nofun, nofun⟩)
    case h_3 hst => exact beginStop_keeps_program _ _ _ _ (hst ▸ ⟨nofun, nofun⟩)
    all_goals exact keepsProgram_refl s

theorem takeTravelLimit_keeps_program (s : State) : KeepsProgram s (takeTravelLimit s) := by
  unfold takeTravelLimit
  split
  · exact endStep_keeps_program _ _ _ nofun
  · exact keepsProgram_refl s

/-- R84: a retract comes to rest at position 0. -/
theorem takeRetractReached_keeps_program (hst : s.motion.stroke = .retracting) : KeepsProgram s (takeRetractReached s) := by
  unfold takeRetractReached
  split
  · exact markRest_keeps_program rfl (hst ▸ ⟨nofun, nofun⟩) ⟨nofun, nofun⟩
  · exact keepsProgram_refl s

/-! ## The guards (R163 to R167) -/

theorem takeGuardChange_keeps_program (i : Nat) (d : Debounced) (s : State) : KeepsProgram s (takeGuardChange i d s) := by
  simp only [takeGuardChange]
  split
  · have hentry : KeepsProgram s (guardEntry ((s.guards.setState i d).kind i) { s with guards := s.guards.setState i d }) :=
      keepsProgram_after (guardEntry_keeps_program _ _) rfl
    split
    · exact keepsProgram_trans hentry (keepsProgram_of_same rfl)
    · exact hentry
  · split <;> exact keepsProgram_of_same rfl

@[simp] theorem programOf_takeGuardConfig (entries : List (Option GuardKind)) (s : State) :
    programOf (takeGuardConfig entries s) = programOf s := by
  simp only [takeGuardConfig]
  repeat' split
  all_goals rfl

/-! ## The hold and the rest report (R65, R107, R158) -/

@[simp] theorem programOf_expireHold (r : Record) (s : State) : programOf (expireHold r s) = programOf s := by
  simp only [expireHold]
  split <;> rfl

@[simp] theorem programOf_announce (r : Record) (s : State) : programOf (announce r s) = programOf s := by
  simp only [announce]
  split <;> rfl

/-- R46, R107: the job becomes NONE after the end of its program. -/
theorem dropJob_keeps_program {r : Run} (hrun : s.run = some r) (hended : r.ended = true) : KeepsProgram s (dropJob s) := by
  intro hc
  obtain ⟨j, hj, hr⟩ := Option.bind_eq_some_iff.1 hrun
  obtain ⟨_, ⟨_, _, hgoes, _⟩ | ⟨_, hgoes, _⟩ | ⟨_, _, _, _, hst⟩⟩ := (onCourse_of_running hj hr).1 hc
  · simp [hended] at hgoes
  · simp [hended] at hgoes
  · refine ⟨(onCourse_of_none (s := dropJob s) rfl).2 hst, fun hm => (monitorSound_iff (dropJob s)).2 ?_⟩
    have hw := watched_of_sound hrun hm
    exact ⟨rfl, rfl, hw.seat, Bool.eq_false_iff.2 fun hb => by simpa [Run.view, hended] using (hw.binning hb).2⟩

/-- R65: the rest report. -/
theorem takeRestReport_keeps_program (hready : restReady s = true) : KeepsProgram s (takeRestReport s) := by
  have hdrop : KeepsProgram s (dropJob s) := by
    unfold restReady at hready
    split at hready
    · next r hrun =>
      simp only [Bool.and_eq_true] at hready
      exact dropJob_keeps_program hrun hready.1.1
    · cases hready
  unfold takeRestReport
  split
  · exact keepsProgram_trans hdrop (keepsProgram_of_same (programOf_announce _ _))
  · exact hdrop

end

end Sys2Proof.Machine
end

section
/-! PROOFS. Every step keeps the invariants of the job unit and the monitor: requests, frames, the step (R46 to R62, R70, R72,
R81, R174, R182). -/

namespace Sys2Proof.Machine

/-! ## Requests of other blocks: each answers, having changed nothing that the invariants read -/

@[simp] theorem programOf_serveMask (l : Link) (tag operation kinds : Nat) (s : State) :
    programOf (serveMask l tag operation kinds s) = programOf s := by
  unfold serveMask
  split
  · simp
  · split <;> simp
  · simp

@[simp] theorem programOf_serveClassPut (l : Link) (tag : Nat) (n : Nat) (e : ClassEntry) (s : State) :
    programOf (serveClassPut l tag n e s) = programOf s := by
  simp only [serveClassPut]
  repeat' split
  all_goals exact programOf_reply ..

@[simp] theorem programOf_serveClassDrop (l : Link) (tag : Nat) (n : Nat) (s : State) :
    programOf (serveClassDrop l tag n s) = programOf s := by
  unfold serveClassDrop
  repeat' split
  all_goals exact programOf_reply ..

@[simp] theorem programOf_serveClassGet (l : Link) (tag : Nat) (n : Nat) (s : State) :
    programOf (serveClassGet l tag n s) = programOf s := by
  unfold serveClassGet
  repeat' split
  all_goals exact programOf_reply ..

@[simp] theorem programOf_serveCataloguePut (l : Link) (tag : Nat) (id : Nat) (e : TypeEntry) (s : State) :
    programOf (serveCataloguePut l tag id e s) = programOf s := by
  simp only [serveCataloguePut]
  repeat' split
  all_goals exact programOf_reply ..

@[simp] theorem programOf_serveCatalogueDrop (l : Link) (tag : Nat) (id : Nat) (s : State) :
    programOf (serveCatalogueDrop l tag id s) = programOf s := by
  unfold serveCatalogueDrop
  repeat' split
  all_goals exact programOf_reply ..

@[simp] theorem programOf_serveCatalogueGet (l : Link) (tag : Nat) (id : Nat) (s : State) :
    programOf (serveCatalogueGet l tag id s) = programOf s := by
  unfold serveCatalogueGet
  repeat' split
  all_goals exact programOf_reply ..

@[simp] theorem programOf_serveProfileRead (l : Link) (tag : Nat) (ch first count : Nat) (s : State) :
    programOf (serveProfileRead l tag ch first count s) = programOf s := by
  unfold serveProfileRead
  repeat' split
  all_goals exact programOf_reply ..

@[simp] theorem programOf_serveResultSummary (l : Link) (tag : Nat) (press first : Nat) (s : State) :
    programOf (serveResultSummary l tag press first s) = programOf s := by
  unfold serveResultSummary
  repeat' split
  all_goals exact programOf_reply ..

@[simp] theorem programOf_serveResultColumn (l : Link) (tag : Nat) (press column : Nat) (s : State) :
    programOf (serveResultColumn l tag press column s) = programOf s := by
  unfold serveResultColumn
  repeat' split
  all_goals exact programOf_reply ..

@[simp] theorem programOf_serveResultPins (l : Link) (tag : Nat) (press column : Nat) (s : State) :
    programOf (serveResultPins l tag press column s) = programOf s := by
  unfold serveResultPins
  repeat' split
  all_goals exact programOf_reply ..

@[simp] theorem programOf_serveResultRelease (l : Link) (tag : Nat) (press : Nat) (s : State) :
    programOf (serveResultRelease l tag press s) = programOf s := by
  simp only [serveResultRelease]
  repeat' split
  all_goals exact programOf_reply ..

@[simp] theorem programOf_qualifyAs (l : Link) (tag : Nat) (key interval : Nat) (level : Option Level) (s : State) :
    programOf (qualifyAs l tag key interval level s) = programOf s := by
  unfold qualifyAs
  repeat' split
  all_goals exact programOf_reply ..

@[simp] theorem programOf_serveQualify (l : Link) (tag : Nat) (typeId headKind level interval : Nat) (s : State) :
    programOf (serveQualify l tag typeId headKind level interval s) = programOf s := by
  unfold serveQualify
  repeat' split
  case h_2.isFalse.isFalse => exact programOf_qualifyAs ..
  all_goals exact programOf_reply ..

@[simp] theorem programOf_serveQualifyGet (l : Link) (tag : Nat) (typeId headKind : Nat) (s : State) :
    programOf (serveQualifyGet l tag typeId headKind s) = programOf s := by
  unfold serveQualifyGet
  repeat' split
  all_goals exact programOf_reply ..

@[simp] theorem programOf_serveDispose (l : Link) (tag : Nat) (press outcome operator : Nat) (s : State) :
    programOf (serveDispose l tag press outcome operator s) = programOf s := by
  unfold serveDispose
  repeat' split
  all_goals exact programOf_reply ..

@[simp] theorem programOf_serveHoldTime (l : Link) (tag : Nat) (seconds : Nat) (s : State) :
    programOf (serveHoldTime l tag seconds s) = programOf s := by
  unfold serveHoldTime
  repeat' split
  all_goals exact programOf_reply ..

@[simp] theorem programOf_serveGuardConfig (l : Link) (tag : Nat) (codes : List Nat) (s : State) :
    programOf (serveGuardConfig l tag codes s) = programOf s := by
  simp only [serveGuardConfig]
  repeat' split
  all_goals simp

@[simp] theorem programOf_serveTare (l : Link) (tag : Nat) (s : State) : programOf (serveTare l tag s) = programOf s := by
  unfold serveTare
  split
  · simp
  · split
    · simp
    · split
      · rfl
      · simp

section
variable {s u : State}

/-- R43: RETRAIN. -/
theorem serveRetrain_keeps_program (l : Link) (tag : Nat) (s : State) : KeepsProgram s (serveRetrain l tag s) := by
  unfold serveRetrain
  split
  · exact keepsProgram_of_same (by simp)
  · split
    · exact keepsProgram_of_same (by simp)
    · exact keepsProgram_before (programOf_reply ..) (keepsProgram_after (beginTraining_keeps_program _ _) rfl)

/-- R2, R182: after a reset there is no job, and nothing is watched. -/
theorem keepsProgram_of_reset (hu : programOf u = programOf State.reset) : KeepsProgram s u := fun _ =>
  keepsProgram_of_same hu ((onCourse_of_none rfl).2 ⟨nofun, nofun⟩) |>.imp_right fun h _ => h monitorSound_reset

theorem serveRestart_keeps_program (l : Link) (tag : Nat) (s : State) : KeepsProgram s (serveRestart l tag s) := by
  unfold serveRestart
  split
  · exact keepsProgram_of_same (by simp)
  · exact keepsProgram_of_reset rfl

/-! ## The job's requests outside a press (R47, R52, R53, R62) -/

/-- With no job RUNNING before and after, nothing is watched. -/
theorem keepsProgram_of_notRunning (hs : s.run = none) (hu : u.run = none) (hmonitor : u.monitor = s.monitor)
    (hprofile : u.profile = s.profile) (hc : OnCourse s → OnCourse u) : KeepsProgram s u := fun h =>
  ⟨hc h, fun hm => (monitorSound_iff u).2 (by
    rw [hu, hmonitor, hprofile, ← hs]
    exact (monitorSound_iff s).1 hm)⟩

/-- R47: JOB. -/
theorem serveJob_keeps_program (l : Link) (tag typeId first : Nat) (serial : List Nat) (mode : Nat) (s : State) :
    KeepsProgram s (serveJob l tag typeId first serial mode s) := by
  unfold serveJob
  split
  · exact keepsProgram_of_same (by simp)
  · exact keepsProgram_of_same (by simp)
  · next m hj _ =>
    have hrun : s.run = none := by simp [State.run, hj]
    split
    · exact keepsProgram_of_same (by simp)
    · split
      · exact keepsProgram_of_same (by simp)
      · split
        · exact keepsProgram_of_same (by simp)
        · refine keepsProgram_before (programOf_reply ..) (keepsProgram_of_notRunning hrun rfl rfl rfl fun hc => ?_)
          exact (onCourse_of_prepared rfl rfl).2 ⟨rfl, sized_view.2 (by simp [newJob]), (onCourse_of_none hj).1 hc⟩

/-- R53: STEP FLUSH. -/
theorem serveStepFlush_keeps_program (l : Link) (tag : Nat) (s : State) : KeepsProgram s (serveStepFlush l tag s) := by
  unfold serveStepFlush
  split
  · exact keepsProgram_of_same (by simp)
  · next j hj =>
    split
    · exact keepsProgram_of_same (by simp)
    · next hrun =>
      have hr : j.run = none := by simpa using hrun
      refine keepsProgram_before (programOf_reply ..) (keepsProgram_of_notRunning (by simp [State.run, hj, hr])
        (by simp [State.run, hr]) rfl rfl fun hc => ?_)
      obtain ⟨_, _, hst⟩ := (onCourse_of_prepared hj hr).1 hc
      exact (onCourse_of_prepared rfl (by exact hr)).2 ⟨rfl, sized_view.2 (by simp), hst⟩

end

end Sys2Proof.Machine
end

section
/-! PROOFS. Every step keeps the invariants of the job unit and the monitor: STEP, START, STOP and the requests of the motion
block (R52, R54, R55, R59, R62, R70, R72, R81). -/

namespace Sys2Proof.Machine

section
variable {s : State} {j : Job} {r : Run}

/-! ## STEP (R52, R59) -/

/-- R46, R52: the job that may take a step is PREPARED, or its program is in progress. -/
theorem openJob_eq_some : s.openJob = some j ↔ s.job = some j ∧ ∀ r, j.run = some r → r.ended = false := by
  unfold State.openJob
  split
  · next hj => simp [hj]
  · next i hj =>
    rw [hj]
    split
    · next hr =>
      constructor
      · rintro ⟨⟩
        exact ⟨rfl, by simp [hr]⟩
      · rintro ⟨h, _⟩
        exact h
    · next r hr =>
      split
      · next hended =>
        constructor
        · rintro ⟨⟩
        · rintro ⟨⟨⟩, h⟩
          simp [h r hr] at hended
      · next hended =>
        constructor
        · rintro ⟨⟩
          refine ⟨rfl, fun q hq => ?_⟩
          cases hr.symm.trans hq
          simpa using hended
        · rintro ⟨h, _⟩
          exact h

/-- R52: a step joins the queue of a job whose stroke is not PAUSED. -/
theorem acceptStep_joins (rec : StepRecord) (next : Grammar) (h : j.run = none ∨ s.motion.stroke ≠ .paused) :
    acceptStep j rec next s = { s with job := some (j.accept rec next) } := by
  refine if_neg fun ⟨hrun, hp⟩ => ?_
  rcases h with h | h
  · simp [State.jobRunning, State.run, Job.accept, h] at hrun
  · exact h hp

/-- R52, R59: in PAUSED, a step is handed over as it is accepted. -/
theorem acceptStep_handsOver (rec : StepRecord) (next : Grammar) (hr : j.run = some r) (hq : j.queue = [])
    (hp : s.motion.stroke = .paused) : acceptStep j rec next s = { s with
      job := some { j.accept rec next with
        queue := []
        run := some { r with
          underrun := false, handed := r.handed + 1
          inHand := some (takeInHand s.head.width s.motion.position r.handed rec) } }
      motion := { s.motion with stroke := .running, commanded := commandOf s.head.width s.motion.position rec.body }
      monitor := s.monitor.handOver rec.body } := by
  have hrun : State.jobRunning { s with job := some (j.accept rec next) } = true := by
    simp [State.jobRunning, State.run, Job.accept, hr]
  have hjob : (State.onRun { s with job := some (j.accept rec next) } (fun r => { r with underrun := false })).job
      = some { j.accept rec next with run := some { r with underrun := false } } := by
    simp [State.onRun, Job.accept, hr]
  have haccept : acceptStep j rec next s
      = handOver (State.onRun { s with job := some (j.accept rec next) } (fun r => { r with underrun := false })) :=
    if_pos ⟨hrun, hp⟩
  rw [haccept, handOver_eq (rec := rec) (rest := []) hjob rfl (by simp [Job.accept, hq])]
  rfl

/-- R52: the size of a job that has taken a step. -/
theorem sized_accept (rec : StepRecord) (next : Grammar) (hcount : j.count < 16) : (j.accept rec next).view.sized :=
  sized_view.2 ⟨hcount, fun _ => Nat.le_add_left 1 j.count⟩

theorem acceptStep_keeps_program (rec : StepRecord) (next : Grammar) (hopen : s.openJob = some j) (hcount : j.count < 16) :
    KeepsProgram s (acceptStep j rec next s) := by
  obtain ⟨hj, hgoes⟩ := openJob_eq_some.1 hopen
  have hsize := sized_accept (j := j) rec next hcount
  cases hr : j.run with
  | none =>
    rw [acceptStep_joins rec next (.inl hr)]
    refine keepsProgram_of_notRunning (by simp [State.run, hj, hr]) (by simp [State.run, Job.accept, hr]) rfl rfl fun hc => ?_
    obtain ⟨hwait, _, hst⟩ := (onCourse_of_prepared hj hr).1 hc
    exact (onCourse_of_prepared rfl (by exact hr)).2 ⟨by simp [Job.accept, hwait], hsize, hst⟩
  | some r =>
    intro hc
    have hrun := run_of_job hj hr
    obtain ⟨_, ⟨h, hh, hended, hunder, hindex, hwait, hst⟩ | ⟨hh, hended, _, hq, hhanded, hst⟩ | ⟨_, hended, _⟩⟩ :=
      (onCourse_of_running hj hr).1 hc
    · rw [acceptStep_joins rec next (.inr (by simp [hst]))]
      refine ⟨(onCourse_of_running rfl (by exact hr)).2 ⟨hsize,
        .inl ⟨h, hh, hended, hunder, hindex, ?_, hst⟩⟩, fun hm => ?_⟩
      · simp [Job.accept, ← hwait, Nat.add_assoc]
      · have hw := watched_of_sound hrun hm
        rw [monitorSound_iff, run_of_job (j := j.accept rec next) rfl hr]
        exact hw
    · rw [acceptStep_handsOver rec next hr hq hst]
      refine ⟨onCourse_of_handed (r := { r with underrun := false }) rfl rfl hended rfl ?_ hsize, fun hm => ?_⟩
      · simp [Job.accept, hhanded]
      · refine monitorSound_of_handed (r := { r with underrun := false }) rfl rfl hh hended ?_
        exact { watched_of_sound hrun hm with }
    · simp [hgoes r hr] at hended

/-- R52: STEP. -/
theorem serveStep_keeps_program (l : Link) (tag : Nat) (offer : StepOffer) (last : Nat) (s : State) :
    KeepsProgram s (serveStep l tag offer last s) := by
  simp only [serveStep]
  split
  · exact keepsProgram_of_same (by simp)
  · next j hopen =>
    split
    · exact keepsProgram_of_same (by simp)
    · split
      · exact keepsProgram_of_same (by simp)
      · split
        · exact keepsProgram_of_same (by simp)
        · split
          · exact keepsProgram_of_same (by simp)
          · next hcount =>
            exact keepsProgram_before (programOf_reply ..) (acceptStep_keeps_program _ _ hopen (Nat.lt_of_not_le hcount))

/-! ## START (R54, R55) -/

/-- R54: where every check of START passes, the stroke is IDLE and the program may start. -/
theorem of_startChecks_none {e : TypeEntry} (h : startChecks s j e = none) :
    s.motion.stroke = .idle ∧ j.startable = true := by
  unfold startChecks at h
  split at h
  · cases h
  · next hstroke =>
    refine ⟨?_, ?_⟩
    · generalize s.motion.stroke = st at hstroke
      cases st <;> simp_all [strokeRefusal]
    · simp only [startChecksLate] at h
      repeat' split at h
      all_goals simp_all

/-- R47, R51, R54: a program that may start has a step in its queue. -/
theorem queue_of_startable (hwait : j.queue.length = j.count) (hsize : j.view.sized)
    (hs : j.startable = true) : ∃ rec rest, j.queue = rec :: rest := by
  refine List.exists_cons_of_ne_nil fun hnil => ?_
  have hcount : j.count = 0 := by simpa [hnil] using hwait.symm
  unfold Job.startable at hs
  split at hs
  · have := (sized_view.1 hsize).2 (.inl (by simp_all))
    omega
  · simp [hnil] at hs

/-- R94, R107: what the monitor and the profile hold as a press opens. -/
theorem watched_of_opened {m : Monitor} {p : Profile} {lim : Limits} {e : TypeEntry} {o : Orientation} (press typeId first : Nat)
    (hm : m = { phase := .watching, limits := some lim, ramCap := none, knee := none, seat := none })
    (hlim : lim.press = press) : Watched (newRun press (columnMap o first e.cols)).view m
      (p.start press typeId e.cols (columnMap o first e.cols)).view := by
  subst hm
  refine ⟨nofun, congrArg some hlim, fun _ => ⟨rfl, rfl⟩, ⟨nofun, fun ⟨i, hi⟩ => by simp [Run.view, newRun] at hi⟩, nofun, nofun,
    rfl, rfl, nofun, rfl, rfl, ?_⟩
  simp [Profile.view, Profile.start, Run.view, newRun, columnMap]

/-- R54, R55: START. -/
theorem serveStart_keeps_program (l : Link) (tag : Nat) (s : State) : KeepsProgram s (serveStart l tag s) := by
  unfold serveStart
  split
  · exact keepsProgram_of_same (by simp)
  · next j hj =>
    split
    · exact keepsProgram_of_same (by simp)
    · next hrun =>
      split
      · exact keepsProgram_of_same (by simp)
      · next e _ =>
        split
        · exact keepsProgram_of_same (by simp)
        · exact keepsProgram_of_same (by simp)
        · next q hchecks hq =>
          have hr : j.run = none := by simpa using hrun
          refine keepsProgram_before (programOf_reply ..) fun hc => ?_
          obtain ⟨hwait, hsize, _⟩ := (onCourse_of_prepared hj hr).1 hc
          obtain ⟨_, hstartable⟩ := of_startChecks_none hchecks
          obtain ⟨rec, rest, hqueue⟩ := queue_of_startable hwait hsize hstartable
          rw [handOver_openPress hqueue]
          refine ⟨onCourse_of_handed (r := newRun s.store.newPress (s.startMap j e)) rfl rfl rfl rfl ?_ hsize,
            fun _ => monitorSound_of_handed (r := newRun s.store.newPress (s.startMap j e)) rfl rfl rfl rfl
              (watched_of_opened _ _ _ rfl rfl)⟩
          simp [newRun, ← hwait, hqueue]

/-! ## STOP (R62) and the requests of the motion block (R70, R72, R81) -/

/-- R59, R61: an abort cause with no program in progress has no effect. -/
theorem interrupt_idle (c : EndCause) (drop : Bool) (hh : s.inHand = none) (hp : s.motion.stroke ≠ .paused) :
    interrupt c drop s = s := by
  rw [interrupt, if_neg (by simp [hh]), if_neg hp]

theorem stopJob_keeps_program (s : State) : KeepsProgram s (stopJob s) := by
  unfold stopJob
  split
  · exact keepsProgram_refl s
  · next j hj =>
    split
    · next hr =>
      refine keepsProgram_of_notRunning (by simp [State.run, hj, hr]) (by simp [State.run]) rfl rfl fun hc => ?_
      exact (onCourse_of_none rfl).2 ((onCourse_of_prepared hj hr).1 hc).2.2
    · split
      · exact keepsProgram_refl s
      · exact interrupt_keeps_program _ s nofun

/-- R62: outside a program STOP leaves the motion block to the homing's end. -/
theorem stopJob_motion (hst : s.motion.stroke.idleOfProgram) (hc : OnCourse s) : (stopJob s).motion = s.motion := by
  have hh : s.inHand = none := by
    have hhand := ((onCourse_iff s).1 hc).2
    rw [← Option.not_isSome_iff_eq_none, hhand]
    exact hst.1
  unfold stopJob
  split
  · rfl
  · split
    · rfl
    · split
      · rfl
      · rw [interrupt_idle _ _ hh hst.2]

/-- R62: STOP. -/
theorem serveStop_keeps_program (l : Link) (tag : Nat) (s : State) : KeepsProgram s (serveStop l tag s) := by
  refine keepsProgram_before (programOf_reply ..) fun hc => ?_
  simp only [takeStop]
  split
  · next hst =>
    have hidle : s.motion.stroke.idleOfProgram := hst ▸ ⟨nofun, nofun⟩
    have hstop : (stopJob s).motion.stroke.idleOfProgram := by rwa [stopJob_motion hidle hc]
    exact keepsProgram_trans (stopJob_keeps_program s) (endHoming_keeps_program _ _ hstop) hc
  · exact stopJob_keeps_program s hc

/-- R70: HOME is taken in UNHOMED or IDLE. -/
theorem stroke_of_homeRefusal_none (h : homeRefusal s = none) : s.motion.stroke = .unhomed ∨ s.motion.stroke = .idle := by
  unfold homeRefusal at h
  split at h
  · cases h
  · next hstill =>
    exact (not_not.1 hstill).1

/-- R70: HOME. -/
theorem serveHome_keeps_program (closed : Bool) (l : Link) (tag : Nat) (s : State) :
    KeepsProgram s (serveHome closed l tag s) := by
  unfold serveHome
  split
  · exact keepsProgram_of_same (by simp)
  · next hnone =>
    refine keepsProgram_before (programOf_reply ..) (keepsProgram_of_stroke rfl rfl rfl ?_ ⟨nofun, nofun⟩)
    rcases stroke_of_homeRefusal_none hnone with h | h <;> exact h ▸ ⟨nofun, nofun⟩

/-- R72: RETRACT is taken in IDLE. -/
theorem stroke_of_retractRefusal_none (h : retractRefusal s = none) : s.motion.stroke = .idle := by
  unfold retractRefusal at h
  split at h
  · cases h
  · split at h
    · cases h
    · next hstill => exact (not_not.1 hstill).1

/-- R72: RETRACT. -/
theorem serveRetract_keeps_program (l : Link) (tag : Nat) (s : State) : KeepsProgram s (serveRetract l tag s) := by
  unfold serveRetract
  split
  · exact keepsProgram_of_same (by simp)
  · next hnone =>
    split
    · exact keepsProgram_of_same (by simp)
    · exact keepsProgram_before (programOf_reply ..)
        (keepsProgram_of_stroke rfl rfl rfl (stroke_of_retractRefusal_none hnone ▸ ⟨nofun, nofun⟩) ⟨nofun, nofun⟩)

/-- R81: CLEAR FAULT. -/
theorem serveClearFault_keeps_program (l : Link) (tag : Nat) (s : State) : KeepsProgram s (serveClearFault l tag s) := by
  unfold serveClearFault
  split
  · next h =>
    exact keepsProgram_before (programOf_reply ..)
      (keepsProgram_of_stroke rfl rfl rfl (h.1 ▸ ⟨nofun, nofun⟩) ⟨nofun, nofun⟩)
  · exact keepsProgram_of_same (by simp)

/-! ## Frames, received whole or byte by byte -/

/-- Every request keeps the invariants of the job unit and the monitor. -/
theorem serve_keeps_program (closed : Bool) (r : Request) (l : Link) (tag : Nat) (s : State) :
    KeepsProgram s (serve closed r l tag s) := by
  cases r with
  | restart => exact serveRestart_keeps_program l tag s
  | retrain => exact serveRetrain_keeps_program l tag s
  | job t f n m => exact serveJob_keeps_program l tag t f n m s
  | step o last => exact serveStep_keeps_program l tag o last s
  | stepFlush => exact serveStepFlush_keeps_program l tag s
  | start => exact serveStart_keeps_program l tag s
  | stop => exact serveStop_keeps_program l tag s
  | home => exact serveHome_keeps_program closed l tag s
  | retract => exact serveRetract_keeps_program l tag s
  | clearFault => exact serveClearFault_keeps_program l tag s
  | _ => exact keepsProgram_of_same (by simp [serve, serveIdent, serveState, serveHeadMap])

theorem takeRequest_keeps_program (l : Link) (tag code : Nat) (body : Option Request) (closed : Bool) (s : State) :
    KeepsProgram s (takeRequest l tag code body s closed) := by
  simp only [takeRequest]
  split
  · exact keepsProgram_of_same (by simp)
  · split
    · exact keepsProgram_of_same (by simp)
    · split
      · exact keepsProgram_of_same (by simp)
      · split
        · exact keepsProgram_of_same (by simp)
        · exact keepsProgram_after (serve_keeps_program closed _ l tag _) (programOf_setRx ..)

theorem receiveByte_keeps_program (l : Link) (b : Byte) (closed : Bool) (s : State) :
    KeepsProgram s (receiveByte l b closed s) := by
  have hrx : ∀ rx, KeepsProgram s (s.setRx l rx) := fun rx => keepsProgram_of_same (programOf_setRx s l rx)
  simp only [receiveByte]
  split
  · split
    · exact hrx _
    · exact keepsProgram_refl s
  · split
    · exact hrx _
    · split
      · exact hrx _
      · simp only [takeFrame]
        split
        · split
          · exact takeRequest_keeps_program l _ _ _ closed s
          · exact hrx _
        · exact hrx _

end

/-! ## The step -/

/-- A command's next state keeps the invariants of the job unit and the monitor. -/
def LeavesProgram (s : State) (o : Host.Outcome State Fault Refusal) : Prop := ∃ u, o = done u ∧ KeepsProgram s u

section
variable {s u v : State}

theorem leavesProgram_done (h : KeepsProgram s u) : LeavesProgram s (done u) := ⟨u, rfl, h⟩

/-- A command that changes nothing the invariants read. -/
theorem leavesProgram_same (h : programOf u = programOf s) : LeavesProgram s (done u) :=
  leavesProgram_done (keepsProgram_of_same h)

/-- A command that is taken under a condition, and otherwise changes nothing the invariants read. -/
theorem leavesProgram_ite {c : Prop} [Decidable c] (hv : programOf v = programOf s) (hu : c → KeepsProgram s u) :
    LeavesProgram s (if c then done u else done v) := by
  split
  · next h => exact leavesProgram_done (hu h)
  · exact leavesProgram_same hv

/-- A command that changes nothing the invariants read, taken or not. -/
theorem leavesProgram_ite_same {c : Prop} [Decidable c] (hu : programOf u = programOf s) (hv : programOf v = programOf s) :
    LeavesProgram s (if c then done u else done v) := leavesProgram_ite hv fun _ => keepsProgram_of_same hu

/-- A change after a count is latched. -/
theorem keepsProgram_latched {enc : Int} (h : KeepsProgram (s.latch enc) u) : KeepsProgram s u :=
  keepsProgram_after h (programOf_latch s enc)

/-- R74, R75, R77: the end given at a hand-over is no drive fault. -/
theorem handOverCause_ne_driveFault (b : StepBody) : handOverCause b ≠ .driveFault := by cases b <;> nofun

theorem execHandoverEnd_leaves_program (enc : Int) (s : State) : LeavesProgram s (execHandoverEnd s enc) := by
  simp only [execHandoverEnd]
  split
  · exact leavesProgram_ite (programOf_latch s enc)
      fun _ => keepsProgram_latched (endStep_keeps_program _ _ _ (handOverCause_ne_driveFault _))
  · exact leavesProgram_same (programOf_latch s enc)

theorem execUnderrunTimeout_leaves_program (enc : Int) (s : State) : LeavesProgram s (execUnderrunTimeout s enc) := by
  refine leavesProgram_ite (programOf_latch s enc) fun h => keepsProgram_latched (enc := enc) ?_
  simp only [State.underrunRuns, Bool.and_eq_true, decide_eq_true_eq] at h
  exact endPaused_keeps_program _ nofun h.1

theorem execHomingComplete_leaves_program (s : State) : LeavesProgram s (execHomingComplete s) := by
  unfold execHomingComplete
  split
  · exact leavesProgram_ite rfl fun h => keepsProgram_of_stroke rfl rfl rfl (h ▸ ⟨nofun, nofun⟩) ⟨nofun, nofun⟩
  · exact leavesProgram_same rfl

theorem execTareComplete_leaves_program (s : State) : LeavesProgram s (execTareComplete s) := by
  unfold execTareComplete
  split
  · exact leavesProgram_ite_same (programOf_completeTare _ s) rfl
  · exact leavesProgram_same rfl

theorem execHoldOverdue_leaves_program (s : State) : LeavesProgram s (execHoldOverdue s) := by
  unfold execHoldOverdue
  split
  · exact leavesProgram_same (programOf_expireHold _ s)
  · exact leavesProgram_same rfl

theorem execUnknownRequest_leaves_program (h : Header) (code : Nat) (s : State) :
    LeavesProgram s (execUnknownRequest h code s) := by
  unfold execUnknownRequest
  split
  · exact leavesProgram_same rfl
  · exact leavesProgram_done (takeRequest_keeps_program _ _ _ _ _ s)

theorem execHeadDetach_leaves_program (enc : Int) (s : State) : LeavesProgram s (execHeadDetach s enc) := by
  simp only [execHeadDetach]
  split
  · exact leavesProgram_same (programOf_latch s enc)
  · exact leavesProgram_done (keepsProgram_latched (detach_keeps_program _))

/-- A command that carries no request keeps the invariants of the job unit and the monitor. -/
theorem event_leaves_program {i : Instr} (hi : i.request? = none) : LeavesProgram s (exec i s) := by
  cases i with
  | powerOn => exact leavesProgram_done (keepsProgram_of_reset rfl)
  | unknownRequest h code => exact execUnknownRequest_leaves_program h code s
  | frameByteReceived l b closed => exact leavesProgram_done (receiveByte_keeps_program l b closed s)
  | restReport => exact leavesProgram_ite rfl takeRestReport_keeps_program
  | holdOverdue => exact execHoldOverdue_leaves_program s
  | handoverEnd enc => exact execHandoverEnd_leaves_program enc s
  | underrunTimeout enc => exact execUnderrunTimeout_leaves_program enc s
  | homingComplete => exact execHomingComplete_leaves_program s
  | tareComplete => exact execTareComplete_leaves_program s
  | headDetach enc => exact execHeadDetach_leaves_program enc s
  | frameDiscard l => exact leavesProgram_same (programOf_setRx ..)
  | interByteTimeout l => exact leavesProgram_same (programOf_setRx ..)
  | transmitFrameEnd l => exact leavesProgram_same (programOf_onLink ..)
  | ramSample raw enc => exact leavesProgram_done (takeRamSample_keeps_program raw enc s)
  | frameInstant enc frames => exact leavesProgram_ite rfl fun _ => takeFrameInstant_keeps_program enc frames s
  | automaticRetrain enc =>
    exact leavesProgram_ite (programOf_latch s enc) fun _ => keepsProgram_latched (beginTraining_keeps_program _ _)
  | headAttach => exact leavesProgram_ite rfl fun _ => beginTraining_keeps_program 1 s
  | trainingAttemptSuccess => exact leavesProgram_ite_same (programOf_trainingSuccess s) rfl
  | trainingAttemptTimeout passed => exact leavesProgram_ite_same (programOf_trainingTimeout passed s) rfl
  | descriptorAnswer kind o => exact leavesProgram_ite_same (programOf_descriptorAnswered kind o s) rfl
  | descriptorTimeout => exact leavesProgram_ite_same rfl rfl
  | rollCallAnswer serial position kind => exact leavesProgram_ite_same rfl rfl
  | rollCallClose => exact leavesProgram_ite_same rfl rfl
  | moveReached enc => exact leavesProgram_done (keepsProgram_latched (takeMoveReached_keeps_program _))
  | probeLimitArrival enc => exact leavesProgram_done (keepsProgram_latched (takeProbeArrival_keeps_program _))
  | stall enc => exact leavesProgram_done (keepsProgram_latched (takeStall_keeps_program _))
  | travelLimit enc => exact leavesProgram_done (keepsProgram_latched (takeTravelLimit_keeps_program _))
  | dwellElapsed enc =>
    exact leavesProgram_ite (programOf_latch s enc) fun _ => keepsProgram_latched (endStep_keeps_program _ _ _ nofun)
  | stopAtRest enc =>
    exact leavesProgram_ite (programOf_latch s enc) fun h =>
      keepsProgram_after (takeFollowOn_keeps_program (s := s.rest enc) (h ▸ ⟨nofun, nofun⟩)) (programOf_rest s enc)
  | retractReached enc =>
    exact leavesProgram_ite (programOf_latch s enc) fun h => keepsProgram_latched (takeRetractReached_keeps_program h)
  | driveReadyLost enc =>
    exact leavesProgram_ite (programOf_latch s enc) fun _ =>
      keepsProgram_after (driveFault_keeps_program _ _) (programOf_latch s enc)
  | driveFaultInput enc =>
    exact leavesProgram_done (keepsProgram_after (driveFault_keeps_program _ _) (programOf_latch s enc))
  | stopTimeout enc =>
    exact leavesProgram_ite (programOf_latch s enc) fun _ => keepsProgram_latched (driveFault_keeps_program _ _)
  | driveReadyPresent => exact leavesProgram_same rfl
  | faultInputInactive => exact leavesProgram_same rfl
  | rampOutputZero => exact leavesProgram_ite_same rfl rfl
  | homeSwitchClosed => exact leavesProgram_ite_same rfl rfl
  | homingRest enc => exact leavesProgram_ite_same (programOf_rest s enc) rfl
  | homingTimeout =>
    exact leavesProgram_ite rfl fun h => endHoming_keeps_program _ _ (h.1 ▸ ⟨nofun, nofun⟩)
  | guardInputChange input nowOpen enc =>
    exact leavesProgram_ite (programOf_latch s enc) fun _ => keepsProgram_latched (takeGuardChange_keeps_program _ _ _)
  | _ => simp [Instr.request?] at hi

/-- Every command keeps the invariants of the job unit and the monitor. -/
theorem exec_leaves_program (i : Instr) (s : State) : LeavesProgram s (exec i s) := by
  cases hi : i.request? with
  | none => exact event_leaves_program hi
  | some p =>
    rw [exec_of_request hi]
    exact leavesProgram_done (takeRequest_keeps_program _ _ _ _ _ s)

/-- Every step keeps the invariants of the job unit and the monitor. -/
theorem step_keeps_program {t : State} (ht : step s = .next t) : KeepsProgram s t := by
  unfold step at ht
  split at ht
  · cases ht
    exact keepsProgram_refl s
  · next c rest _ =>
    obtain ⟨u, hu, hkeeps⟩ := exec_leaves_program c { s with pending := rest }
    rw [hu] at ht
    cases ht
    exact keepsProgram_before (programOf_arbiters u) (keepsProgram_after hkeeps rfl)

end

/-- Settles O39: a sound job unit with a step in hand exactly in RUNNING is a program on course; every command keeps the course,
and on it what the monitor and the profile hold beside the program. -/
theorem jobAndMonitorStaySound : Obligations.JobAndMonitorStaySound := by
  refine ⟨fun s t hmotion hjob ht => ?_, fun s t hmotion hjob hmonitor ht => ?_⟩
  · have hc : OnCourse s := (onCourse_iff s).2 ⟨hjob, hmotion.hand⟩
    exact ((onCourse_iff t).1 (step_keeps_program ht hc).1).1
  · have hc : OnCourse s := (onCourse_iff s).2 ⟨hjob, hmotion.hand⟩
    exact (step_keeps_program ht hc).2 hmonitor

end Sys2Proof.Machine
end

section
/-! PROOFS. The step grammar, and what a hand-over fixes (R49, R51, R57, R68, R73 to R77, R82, R83, R107, R108). -/

namespace Sys2Proof.Machine

/-! ## The step grammar (R51) -/

/-- R51: the grammar position after a sequence of step kinds without the last flag. -/
def grammarRun (g : Option Grammar) (kinds : List StepKind) : Option Grammar :=
  kinds.foldl (fun g k => g.bind (fun p => grammarNext p k)) g

theorem grammarRun_cons (p : Grammar) (k : StepKind) (kinds : List StepKind) :
    grammarRun (some p) (k :: kinds) = grammarRun (grammarNext p k) kinds := rfl

/-- R51: a sequence that is refused stays refused. -/
@[simp] theorem grammarRun_none (kinds : List StepKind) : grammarRun none kinds = none := by
  induction kinds with
  | nil => rfl
  | cons k kinds ih => exact ih

/-- Elements of one sort up to a given one, and a rest of another sort. -/
def SplitsAt (sort : StepKind → Prop) (k : StepKind) (rest : List StepKind → Prop) (kinds : List StepKind) : Prop :=
  ∃ a c, kinds = a ++ k :: c ∧ (∀ x ∈ a, sort x) ∧ rest c

theorem not_splitsAt_nil {sort : StepKind → Prop} {k : StepKind} {rest : List StepKind → Prop} : ¬ SplitsAt sort k rest [] := by
  rintro ⟨a, c, h, _⟩
  simp at h

theorem splitsAt_cons {sort : StepKind → Prop} {k x : StepKind} {rest : List StepKind → Prop} {kinds : List StepKind} :
    SplitsAt sort k rest (x :: kinds) ↔ sort x ∧ SplitsAt sort k rest kinds ∨ x = k ∧ rest kinds := by
  constructor
  · rintro ⟨a, c, h, ha, hc⟩
    cases a with
    | nil =>
      obtain ⟨rfl, rfl⟩ := List.cons.inj h
      exact .inr ⟨rfl, hc⟩
    | cons y a =>
      obtain ⟨rfl, rfl⟩ := List.cons.inj h
      exact .inl ⟨ha x List.mem_cons_self, a, c, rfl, fun z hz => ha z (List.mem_cons_of_mem _ hz), hc⟩
  · rintro (⟨hx, a, c, rfl, ha, hc⟩ | ⟨rfl, hc⟩)
    · exact ⟨x :: a, c, rfl, List.forall_mem_cons.2 ⟨hx, ha⟩, hc⟩
    · exact ⟨[], kinds, rfl, by simp, hc⟩

/-- R51: what may follow the PRESS. -/
def AfterPress (kinds : List StepKind) : Prop := ∀ k ∈ kinds, k = .dwell ∨ k = .retract

/-- R51: what may follow the PROBE. -/
def AfterProbe : List StepKind → Prop := SplitsAt (· = .dwell) .press AfterPress

theorem grammarRun_pressed (kinds : List StepKind) :
    grammarRun (some .pressed) kinds = some .pressed ↔ AfterPress kinds := by
  induction kinds with
  | nil => exact iff_of_true rfl (by simp [AfterPress])
  | cons k kinds ih =>
    rw [grammarRun_cons, AfterPress, List.forall_mem_cons]
    cases k <;> simp [grammarNext, ih, AfterPress]

theorem grammarRun_probed (kinds : List StepKind) :
    grammarRun (some .probed) kinds = some .pressed ↔ AfterProbe kinds := by
  induction kinds with
  | nil => exact ⟨nofun, fun h => (not_splitsAt_nil h).elim⟩
  | cons k kinds ih =>
    rw [grammarRun_cons, AfterProbe, splitsAt_cons]
    cases k <;> simp [grammarNext, ih, AfterProbe, grammarRun_pressed]

theorem grammarRun_opening (kinds : List StepKind) : grammarRun (some .opening) kinds = some .pressed ↔
    SplitsAt (fun k => k = .move ∨ k = .dwell) .probe AfterProbe kinds := by
  induction kinds with
  | nil => exact ⟨nofun, fun h => (not_splitsAt_nil h).elim⟩
  | cons k kinds ih =>
    rw [grammarRun_cons, splitsAt_cons]
    cases k <;> simp [grammarNext, ih, grammarRun_probed]

/-- Settles O30, from the last position of the grammar back to the first. -/
theorem grammarAcceptsPressPrograms : Obligations.GrammarAcceptsPressPrograms := by
  intro kinds
  refine (grammarRun_opening kinds).trans ⟨?_, ?_⟩
  · rintro ⟨a, _, rfl, ha, b, c, rfl, hb, hc⟩
    exact ⟨a, b, c, by simp, ha, hb, hc⟩
  · rintro ⟨a, b, c, rfl, ha, hb, hc⟩
    exact ⟨a, b ++ .press :: c, by simp, ha, b, c, rfl, hb, hc⟩

/-! ## What a hand-over fixes (R73 to R77, R107, R108) -/

/-- R73: a step taken in hand has its speed used, its clamped flag, its end where one is given, and its speed commanded. -/
def HandFixed (w : Option Width) (start : Int) (index : Nat) (rec : StepRecord) (speed : Option Nat) (clamped : Option Bool)
    (ends : Prop) (v : Int) : Prop :=
  let hand := takeInHand w start index rec
  let command := commandOf w start rec.body
  hand.record = rec ∧ hand.index = index ∧ hand.start = start ∧ hand.travelled = 0 ∧ hand.peak = 0
    ∧ hand.speedUsed = speed ∧ hand.clamped = clamped ∧ (hand.endsNow = true ↔ ends)
    ∧ (ends → command = 0) ∧ (¬ ends → command = v)

/-- R73: a step with an end given at the hand-over commands no speed. -/
theorem handFixed {w : Option Width} {start : Int} {rec : StepRecord} {speed : Option Nat} {clamped : Option Bool}
    {ends : Prop} {v : Int} (index : Nat) (hspeed : speedUsed w rec.body = speed) (hclamped : clampedFlag w rec.body = clamped)
    (hends : endsAtHandOver start rec.body = true ↔ ends)
    (hv : endsAtHandOver start rec.body = false → commandOf w start rec.body = v) :
    HandFixed w start index rec speed clamped ends v :=
  ⟨rfl, rfl, rfl, rfl, rfl, hspeed, hclamped, hends, fun h => if_pos (hends.2 h),
    fun h => hv (Bool.eq_false_iff.2 (mt hends.1 h))⟩

section
variable {start : Int} (w : Option Width)

/-- R74: a MOVE commands its speed toward its target. -/
theorem commandOf_move {t v : Nat} (h : endsAtHandOver start (.move t v) = false) :
    commandOf w start (.move t v) = if start < t then (v : Int) else -v := if_neg (by simp [h])

/-- R74: a RETRACT commands its speed upward. -/
theorem commandOf_retract {t v : Nat} (h : endsAtHandOver start (.retract t v) = false) :
    commandOf w start (.retract t v) = -v := if_neg (by simp [h])

/-- R75: a PROBE commands its clamped speed downward. -/
theorem commandOf_probe {l v a b : Nat} (h : endsAtHandOver start (.probe l v a b) = false) :
    commandOf w start (.probe l v a b) = (min v 100 : Nat) := if_neg (by simp [h])

/-- R77: a DWELL commands no speed. -/
theorem commandOf_dwell {t : Nat} (h : endsAtHandOver start (.dwell t) = false) :
    commandOf w start (.dwell t) = 0 := if_neg (by simp [h])

/-- R76: a PRESS commands the speed it uses. -/
theorem commandOf_press {v cap n : Nat} (h : speedUsed w (.press v cap) = some n) :
    commandOf w start (.press v cap) = n := by
  simp [commandOf, endsAtHandOver, h]

end

/-- R83: the follow-on of each abort cause. -/
theorem followOf_eq (c : EndCause) :
    followOf c = if c = .guard ∨ c = .stall ∨ c = .travelLimit then .idle else .retract := by cases c <;> rfl

/-- R73 to R77, R107, R108: what a hand-over fixes, kind by kind. -/
theorem handFixed_of_body (w : Option Width) (start : Int) (index : Nat) (rec : StepRecord) (m : Monitor) :
    match rec.body with
    | .move t v => HandFixed w start index rec (some v) (some false) ((t - start).natAbs ≤ 3) (if start < t then v else -v)
        ∧ m.handOver rec.body = m
    | .retract t v => HandFixed w start index rec (some v) (some false) (start ≤ t) (-v) ∧ m.handOver rec.body = m
    | .probe l v _ _ => HandFixed w start index rec (some (min v 100)) (some (decide (100 < v))) (l ≤ start + 3) (min v 100 : Nat)
        ∧ m.handOver rec.body = m
    | .dwell t => HandFixed w start index rec none none (t = 0) 0 ∧ m.handOver rec.body = m
    | .press v cap => (∀ x limit, w = some x → (x, limit) ∈ [(Width.four, 500), (.two, 250), (.one, 125)] →
          HandFixed w start index rec (some (min v limit)) (some (decide (limit < v))) False (min v limit : Nat))
        ∧ (w = none → HandFixed w start index rec (some v) (some false) False v)
        ∧ m.handOver rec.body = { m with phase := .pressing, ramCap := some (min cap 50000) } := by
  obtain ⟨body, last⟩ := rec
  cases body with
  | move t v => exact ⟨handFixed index rfl rfl decide_eq_true_iff (commandOf_move w), rfl⟩
  | retract t v => exact ⟨handFixed index rfl rfl decide_eq_true_iff (commandOf_retract w), rfl⟩
  | probe l v a b => exact ⟨handFixed index rfl rfl decide_eq_true_iff (commandOf_probe w), rfl⟩
  | dwell t => exact ⟨handFixed index rfl rfl decide_eq_true_iff (commandOf_dwell w), rfl⟩
  | press v cap =>
    have hends : endsAtHandOver start (.press v cap) = true ↔ False := ⟨nofun, nofun⟩
    refine ⟨fun x limit hw hlimit => ?_, fun hw => ?_, rfl⟩
    · have hspeed : speedLimit x = limit := by cases x <;> simp_all [speedLimit]
      subst hw hspeed
      exact handFixed index rfl rfl hends fun _ => commandOf_press _ rfl
    · subst hw
      exact handFixed index rfl rfl hends fun _ => commandOf_press _ rfl

/-- Settles O34: each part is what the definitions of a hand-over, a falling ramp and a stop say, in words. -/
theorem handOverSetsTheStep : Obligations.HandOverSetsTheStep := by
  refine ⟨handFixed_of_body, fun v rate r hv => ?_, fun k => rfl, fun c => ⟨fun hc => ?_, fun hc => ?_⟩,
    fun j r rec rest s hj hr hq => handOver_eq hj hr hq⟩
  · simp [slowRamp, fallingFrom, hv]
  · rw [followOf_eq, if_neg]
    simp only [List.mem_cons, List.not_mem_nil, or_false] at hc
    rcases hc with rfl | rfl | rfl | rfl | rfl | rfl | rfl | rfl <;> simp
  · rw [followOf_eq, if_pos]
    simpa using hc

end Sys2Proof.Machine
end

section
/-! PROOFS. The job unit's requests: JOB, STEP, STEP FLUSH, the checks of START, STOP (R47, R49, R52 to R54, R59, R62). -/

namespace Sys2Proof.Machine

/-! ## JOB (R47) -/

/-- R47: the ranges of a job's fields, in words. -/
theorem jobFields_iff (id f : Nat) (serial : List Nat) : jobFields id f serial = true ↔
    (1 ≤ id ∧ id ≤ 9999) ∧ (1 ≤ f ∧ f ≤ 48) ∧ 1 ≤ serial.length ∧ serial.length ≤ 24 ∧ ∀ c ∈ serial, 32 ≤ c ∧ c ≤ 126 := by
  simp [jobFields, printable, between_iff, and_assoc]

/-- R47: the modes a code may name. -/
theorem modeOf_eq (mode : Nat) :
    modeOf mode = if mode ≤ 1 then some (if mode = 0 then .preloaded else .streamed) else none := by
  unfold modeOf
  split <;> simp_all
  omega

section
variable {l : Link} {tag id f : Nat} {serial : List Nat} {mode : Nat} {s : State}

theorem serveJob_jobExists (hj : s.job ≠ none) : serveJob l tag id f serial mode s = s.refuse l tag .jobExists := by
  obtain ⟨j, hj⟩ := Option.ne_none_iff_exists'.1 hj
  simp [serveJob, hj]

theorem serveJob_badField (hj : s.job = none) (h : ¬ (mode ≤ 1 ∧ jobFields id f serial = true)) :
    serveJob l tag id f serial mode s = s.refuse l tag .badField := by
  by_cases hm : mode ≤ 1
  · have hf : jobFields id f serial = false := Bool.eq_false_iff.2 fun hf => h ⟨hm, hf⟩
    simp [serveJob, hj, modeOf_eq, hm, hf]
  · simp [serveJob, hj, modeOf_eq, hm]

/-- R47: JOB past the checks of its fields. -/
theorem serveJob_fields (hj : s.job = none) (hm : mode ≤ 1) (hf : jobFields id f serial = true) :
    serveJob l tag id f serial mode s = match tabGet s.cat.types id with
      | none => s.refuse l tag .notFound
      | some e =>
        if 48 < f + e.cols - 1 then s.refuse l tag .badField
        else State.reply { s with job := some (newJob id f serial (if mode = 0 then .preloaded else .streamed)) } l tag .ok
          [.u8 e.cols, .u8 f, .u8 (f + e.cols - 1)] := by
  simp only [serveJob, hj, modeOf_eq, hm, hf]
  rfl

end

/-- Settles O28, check by check. -/
theorem jobIsPrepared : Obligations.JobIsPrepared := by
  intro h id f serial mode s ha fields
  have hexec : exec (.job h id f serial mode) s = done (serveJob h.link h.tag id f serial mode (heard h s)) :=
    exec_of_admitted rfl ha
  have hfields : fields ↔ mode ≤ 1 ∧ jobFields id f serial = true := by
    rw [jobFields_iff]
    simp only [fields]
    tauto
  rw [hexec, hfields]
  have hcat {o : Option TypeEntry} (ht : tabGet s.cat.types id = o) : tabGet (heard h s).cat.types id = o := by simpa using ht
  refine ⟨fun hj => ?_, fun hj hf => ?_, fun hj ⟨hm, hf⟩ ht => ?_, fun hj ⟨hm, hf⟩ e ht _ => ?_⟩
  · rw [serveJob_jobExists (by simpa using hj)]; rfl
  · rw [serveJob_badField (by simpa using hj) hf]; rfl
  · rw [serveJob_fields (by simpa using hj) hm hf, hcat ht]; rfl
  · rw [serveJob_fields (by simpa using hj) hm hf, hcat ht]
    refine ⟨fun hfar => ?_, fun hfits => ?_⟩
    · simp only [if_pos hfar]; rfl
    · simp only [if_neg (Nat.not_lt.2 hfits)]; rfl

/-! ## STEP (R49, R52, R59) -/

/-- R49: the ranges of a step's fields, in words. -/
theorem bodyInRange_iff (b : StepBody) : bodyInRange b = true ↔ match b with
    | .move t v => t ≤ 199000 ∧ 1 ≤ v ∧ v ≤ 1000
    | .probe l v lo hi => l ≤ 199000 ∧ 1 ≤ v ∧ v ≤ 1000 ∧ lo ≤ hi ∧ hi ≤ 199000
    | .press v cap => 1 ≤ v ∧ v ≤ 500 ∧ 1000 ≤ cap
    | .dwell t => t ≤ 10000
    | .retract t v => t ≤ 199000 ∧ 1 ≤ v ∧ v ≤ 1000 := by
  cases b <;> simp [bodyInRange, between_iff, and_assoc]

/-- R172: the flags a byte may name. -/
theorem flagOf_eq (last : Nat) : flagOf last = if last ≤ 1 then some (decide (last = 1)) else none := by
  unfold flagOf
  split <;> simp_all
  omega

/-- R52: the step record of an offer within its ranges. -/
theorem offeredStep_known {b : StepBody} {last : Nat} (hlast : last ≤ 1) (hb : bodyInRange b = true) :
    offeredStep (.known b) last = some { body := b, last := decide (last = 1) } := by
  simp [offeredStep, flagOf_eq, hlast, hb]

/-- R52: any other offer has none. -/
theorem offeredStep_none {offer : StepOffer} {last : Nat}
    (h : ∀ b, offer = .known b → last ≤ 1 → bodyInRange b = false) : offeredStep offer last = none := by
  cases offer with
  | unknownKind code => rfl
  | known b =>
    by_cases hlast : last ≤ 1
    · simp [offeredStep, flagOf_eq, hlast, h b rfl hlast]
    · simp [offeredStep, flagOf_eq, hlast]

section
variable {l : Link} {tag last : Nat} {offer : StepOffer} {s : State} {j : Job} {rec : StepRecord} {g : Grammar}

theorem serveStep_noJob (hj : s.openJob = none) : serveStep l tag offer last s = s.refuse l tag .noJob := by
  simp [serveStep, hj]

theorem serveStep_badField (hj : s.openJob = some j) (ho : offeredStep offer last = none) :
    serveStep l tag offer last s = s.refuse l tag .badField := by
  simp [serveStep, hj, ho]

theorem serveStep_programOrder (hj : s.openJob = some j) (ho : offeredStep offer last = some rec)
    (hg : grammarNext j.grammar (bodyKind rec.body) = none) :
    serveStep l tag offer last s = s.refuse l tag .programOrder := by
  simp [serveStep, hj, ho, hg]

/-- R52: STEP past the grammar. -/
theorem serveStep_grammar (hj : s.openJob = some j) (ho : offeredStep offer last = some rec)
    (hg : grammarNext j.grammar (bodyKind rec.body) = some g) : serveStep l tag offer last s =
      if 16 ≤ j.queue.length then s.refuse l tag .queueFull
      else if 16 ≤ j.count then s.refuse l tag .programFull
      else (acceptStep j rec g s).reply l tag .ok (stepWire (acceptStep j rec g s)) := by
  simp only [serveStep, hj, ho, hg]
  rfl

end

/-- R51, R52: a job with a step accepted, by the step's fields. -/
theorem accept_known (j : Job) (b : StepBody) (last : Nat) (g : Grammar) :
    j.accept { body := b, last := decide (last = 1) } g = { j with
      queue := j.queue ++ [{ body := b, last := decide (last = 1) }], count := j.count + 1
      grammar := if last = 1 then .closing else g
      pressAccepted := j.pressAccepted || decide (bodyKind b = .press) } := by
  simp [Job.accept]

/-- R52: what an accepted STEP answers. -/
theorem stepWire_of_job {s : State} {j : Job} (hj : s.job = some j) :
    stepWire s = [.u8 (16 - j.queue.length), .u8 j.count] := by
  simp [stepWire, hj, Config.maxSteps]

@[simp] theorem heard_openJob (h : Header) (s : State) : (heard h s).openJob = s.openJob := by
  simp only [State.openJob, heard_job]

theorem exec_step_of_admitted {h : Header} {offer : StepOffer} {last : Nat} {s : State}
    (ha : admitted h (.step offer last) s = true) :
    exec (.step h offer last) s = done (serveStep h.link h.tag offer last (heard h s)) := exec_of_admitted rfl ha

/-- Settles O29: STEP check by check; a step accepted joins the queue, or in PAUSED is handed over. -/
theorem stepJoinsTheQueue : Obligations.StepJoinsTheQueue := by
  refine ⟨bodyInRange_iff, fun h offer last s ha => ?_, fun h b last j r g s ha hj hr hended hq hp hlast hb hg hcount => ?_⟩
  · rw [exec_step_of_admitted ha]
    refine ⟨fun hj => ?_, fun j hj => ⟨fun hbad => ?_, fun b ho hlast hb => ⟨fun hg => ?_, fun g hg => ⟨fun hq => ?_,
      fun hq hc => ?_, fun hq hc hst => ?_⟩⟩⟩⟩
    · rw [serveStep_noJob (by simpa using hj)]; rfl
    · rw [serveStep_badField (by simpa using hj) (offeredStep_none hbad)]; rfl
    all_goals
      subst ho
      have hopen : (heard h s).openJob = some j := by simpa using hj
      have hrec := offeredStep_known hlast hb
    · rw [serveStep_programOrder hopen hrec hg]; rfl
    · rw [serveStep_grammar hopen hrec hg, if_pos hq]; rfl
    · rw [serveStep_grammar hopen hrec hg, if_neg (by omega), if_pos hc]; rfl
    · rw [serveStep_grammar hopen hrec hg, if_neg (by omega), if_neg (by omega),
        acceptStep_joins _ _ (hst.imp_right fun hn => by simpa using hn)]
      have hfree : 16 - (j.queue.length + 1) = 15 - j.queue.length := by omega
      rw [accept_known, stepWire_of_job rfl]
      simp only [List.length_append, List.length_singleton, hfree]
      rfl
  · have hopen : (heard h s).openJob = some j := by
      rw [heard_openJob]
      exact openJob_eq_some.2 ⟨hj, fun q hq => by cases hr.symm.trans hq; exact hended⟩
    rw [exec_step_of_admitted ha, serveStep_grammar hopen (offeredStep_known hlast hb) hg, if_neg (by simp [hq]),
      if_neg (by omega), acceptStep_handsOver _ _ hr hq (by simpa using hp), accept_known, stepWire_of_job rfl]
    simp only [heard_head, heard_motion, heard_monitor, hq]
    rfl

end Sys2Proof.Machine
end

section
/-! PROOFS. STEP FLUSH, the refusals of START, and STOP (R53, R54, R62). -/

namespace Sys2Proof.Machine

/-! ## STEP FLUSH (R53) -/

section
variable {l : Link} {tag : Nat} {s : State} {j : Job}

theorem serveStepFlush_none (hj : s.job = none) : serveStepFlush l tag s = s.refuse l tag .busy := by
  simp [serveStepFlush, hj]

theorem serveStepFlush_running (hj : s.job = some j) (hr : j.run ≠ none) : serveStepFlush l tag s = s.refuse l tag .busy := by
  simp [serveStepFlush, hj, Option.isSome_iff_ne_none, hr]

theorem serveStepFlush_prepared (hj : s.job = some j) (hr : j.run = none) : serveStepFlush l tag s =
    State.reply { s with job := some { j with queue := [], grammar := .opening, pressAccepted := false, count := 0 } }
      l tag .ok [.u8 16] := by
  simp [serveStepFlush, hj, hr, Config.maxSteps]

end

/-- Settles O31: STEP FLUSH by the job's state, and the line link's lack of authority. -/
theorem stepFlushEmptiesTheQueue : Obligations.StepFlushEmptiesTheQueue := by
  refine fun h s => ⟨fun ha => ?_, fun hl hroom => ?_⟩
  · have hexec : exec (.stepFlush h) s = done (serveStepFlush h.link h.tag (heard h s)) := exec_of_admitted rfl ha
    rw [hexec]
    refine ⟨fun hj => ?_, fun j hj hr => ?_, fun j hj hr => ?_⟩
    · rw [serveStepFlush_none (by simpa using hj)]; rfl
    · rw [serveStepFlush_running (by simpa using hj) hr]; rfl
    · rw [serveStepFlush_prepared (by simpa using hj) hr]; rfl
  · have hline : (s.link h.link).replies.length < 8 := by rw [hl]; exact hroom
    have hforbidden : permitted h.link (requestCode .stepFlush) = false := by rw [hl]; rfl
    exact congrArg done (request_of_forbidden false hline hforbidden)

/-! ## The refusals of START (R54) -/

/-- R51, R54: the program of a job may not start. -/
theorem startable_eq_false {j : Job} (h : j.mode = .preloaded ∧ ¬ (j.grammar = .closing ∧ j.pressAccepted = true)
    ∨ j.mode = .streamed ∧ j.queue = []) : j.startable = false := by
  unfold Job.startable
  rcases h with ⟨hmode, h⟩ | ⟨hmode, h⟩
  · rw [hmode]
    simpa using h
  · simp [hmode, h]

section
variable {s : State} {j : Job} {e : TypeEntry} {q : QualEntry}

/-- R54, check 2. -/
theorem startChecks_stroke {st : Status} (h : strokeRefusal s.motion.stroke = some st) : startChecks s j e = some st := by
  simp only [startChecks, h]

/-- R54, checks 3 and 4 in IDLE. -/
theorem startChecks_idle (h : s.motion.stroke = .idle) : startChecks s j e =
    if s.openSet ≠ [] then some .guardOpen
    else if s.head.status ≠ .ready then some .headNotReady
    else if s.head.tare ≠ none then some .busy
    else startChecksLate s j e := by
  simp only [startChecks, h, strokeRefusal, Option.isSome_iff_ne_none]

/-- R54, check 5. -/
theorem startChecksLate_unqualified (h : s.qualEntry j = none) : startChecksLate s j e = some .notQualified := by
  simp only [startChecksLate, h]

/-- R54, checks 6 to 9. -/
theorem startChecksLate_qualified (h : s.qualEntry j = some q) : startChecksLate s j e =
    if q.level = .q1 ∧ ¬ (s.startMap j e).all s.head.ready then some .sensingIncomplete
    else if s.store.records.any (fun r => decide (r.state = .held)) then some .held
    else if 32 ≤ s.store.records.length then some .resultsFull
    else if j.startable then none else some .programIncomplete := by
  simp only [startChecksLate, h]
  rfl

@[simp] theorem heard_startChecks (h : Header) (s : State) : startChecks (heard h s) j e = startChecks s j e := by
  unfold heard
  cases h.link <;> rfl

end

section
variable {l : Link} {tag : Nat} {s : State} {j : Job} {e : TypeEntry}

theorem serveStart_noJob (hj : s.job = none) : serveStart l tag s = s.refuse l tag .noJob := by
  simp [serveStart, hj]

theorem serveStart_running (hj : s.job = some j) (hr : j.run ≠ none) : serveStart l tag s = s.refuse l tag .busy := by
  simp [serveStart, hj, Option.isSome_iff_ne_none, hr]

theorem serveStart_refused {st : Status} (hj : s.job = some j) (hr : j.run = none) (he : tabGet s.cat.types j.typeId = some e)
    (hc : startChecks s j e = some st) : serveStart l tag s = s.refuse l tag st := by
  simp [serveStart, hj, hr, he, hc]

end

/-- Settles O32, check by check. -/
theorem startRefusesInOrder : Obligations.StartRefusesInOrder := by
  intro h s ha refused
  have hexec : exec (.start h) s = done (serveStart h.link h.tag (heard h s)) := exec_of_admitted rfl ha
  refine ⟨fun hj => ?_, fun j hj hr => ?_, fun j e hj hr he => ?_⟩
  · simp only [refused, hexec, serveStart_noJob (s := heard h s) (by simpa using hj)]; rfl
  · simp only [refused, hexec, serveStart_running (s := heard h s) (by simpa using hj) hr]; rfl
  have hrefused {st : Status} (hc : startChecks s j e = some st) : refused st := by
    simp only [refused, hexec, serveStart_refused (s := heard h s) (by simpa using hj) hr (by simpa using he)
      ((heard_startChecks h s).trans hc)]
    rfl
  refine ⟨fun hst => hrefused (startChecks_stroke ?_), fun hst => hrefused (startChecks_stroke ?_), fun hst => ?_⟩
  · rcases hst with hst | hst <;> rw [hst] <;> rfl
  · rcases hst with hst | hst | hst | hst | hst <;> rw [hst] <;> rfl
  have hidle := startChecks_idle (j := j) (e := e) hst
  refine ⟨fun hg => hrefused ?_, fun hg hh => hrefused ?_, fun hg hh ht => hrefused ?_, fun hg hh ht => ?_⟩
  · rw [hidle, if_pos hg]
  · rw [hidle, if_neg (not_not_intro hg), if_pos hh]
  · rw [hidle, if_neg (not_not_intro hg), if_neg (not_not_intro hh), if_pos ht]
  have hlate : startChecks s j e = startChecksLate s j e := by
    rw [hidle, if_neg (not_not_intro hg), if_neg (not_not_intro hh), if_neg (not_not_intro ht)]
  refine ⟨fun hq => hrefused (hlate.trans (startChecksLate_unqualified hq)), fun q hq => ?_⟩
  intro unready held
  have hchecks := hlate.trans (startChecksLate_qualified hq)
  have hunready : unready ↔ q.level = .q1 ∧ ¬ (s.startMap j e).all s.head.ready = true := by simp [unready, State.startMap]
  have hheld : held ↔ s.store.records.any (fun r => decide (r.state = .held)) = true := by simp [held]
  rw [hunready, hheld]
  refine ⟨fun hu => hrefused ?_, fun hu hh => hrefused ?_, fun hu hh hfull => hrefused ?_,
    fun hu hh hroom hprog => hrefused ?_⟩
  · rw [hchecks, if_pos hu]
  · rw [hchecks, if_neg hu, if_pos hh]
  · rw [hchecks, if_neg hu, if_neg hh, if_pos hfull]
  · rw [hchecks, if_neg hu, if_neg hh, if_neg (by omega), startable_eq_false hprog]; rfl

/-! ## STOP (R62) -/

section
variable {s : State} {j : Job} {r : Run}

theorem exec_stop_of_admitted {h : Header} (ha : admitted h .stop s = true) :
    exec (.stop h) s = answered h .ok [] (takeStop (heard h s)) :=
  (exec_of_admitted rfl ha : exec (.stop h) s = done (serveStop h.link h.tag (heard h s)))

/-- R62: STOP outside a homing acts on the job alone. -/
theorem takeStop_job (h : s.motion.stroke ≠ .homing) : takeStop s = stopJob s := if_neg h

theorem stopJob_none (hj : s.job = none) : stopJob s = s := by simp [stopJob, hj]

theorem stopJob_prepared (hj : s.job = some j) (hr : j.run = none) : stopJob s = { s with job := none } := by
  simp [stopJob, hj, hr]

theorem stopJob_running (hrun : s.run = some r) : stopJob s = if r.ended then s else interrupt .stopped false s := by
  obtain ⟨j, hj, hr⟩ := Option.bind_eq_some_iff.1 hrun
  simp [stopJob, hj, hr]

/-- R61: an abort cause reaches a step in hand. -/
theorem interrupt_inHand {h : InHand} (c : EndCause) (drop : Bool) (hh : s.inHand = some h) :
    interrupt c drop s = endStep c s.motion.position drop s := if_pos (congrArg Option.isSome hh)

/-- R59, R61: an abort cause reaches a PAUSED program. -/
theorem interrupt_paused (c : EndCause) (drop : Bool) (hh : s.inHand = none) (hp : s.motion.stroke = .paused) :
    interrupt c drop s = endPaused c drop s := (if_neg (by simp [hh])).trans (if_pos hp)

end

/-- Settles O35, by the job's state. -/
theorem stopActsByJobState : Obligations.StopActsByJobState := by
  intro h s ha hst
  rw [exec_stop_of_admitted ha, takeStop_job (by simpa using hst)]
  refine ⟨fun hj => ?_, fun j hj hr => ?_, fun r hrun hended => ?_, fun r hand hrun hended hh => ?_⟩
  · rw [stopJob_none (by simpa using hj)]
  · rw [stopJob_prepared (by simpa using hj) hr]
  · rw [stopJob_running (by simpa using hrun), if_pos hended]
  · obtain ⟨j, hj, hr⟩ := Option.bind_eq_some_iff.1 hrun
    have hj' : (heard h s).job = some j := by simpa using hj
    refine ⟨_, ?_, rfl⟩
    rw [stopJob_running (by simpa using hrun), hended, if_neg (by simp), interrupt_inHand _ _ (inHand_of_job hj' hr hh), heard_motion]
    exact endStep_aborts _ _ _ hj' hr hh (by cases bodyKind hand.record.body <;> nofun) nofun

end Sys2Proof.Machine
end

section
/-! PROOFS. The ends of steps and programs, event by event: normal ends, aborts, the ends of a PAUSED program (R57 to R61, R74 to
R79, R111, R167). -/

namespace Sys2Proof.Machine

/-! ## The step in hand at a latched count -/

/-- A program goes on by its job's queue and marks, not by the run that the job held. -/
theorem goesOn_of_run {j : Job} {q r : Run} {h : InHand} {c : EndCause} {stop : Int} {s u : State}
    (hg : GoesOn { j with run := some q } r h c stop s u) : GoesOn j r h c stop s u :=
  ⟨hg.records, hg.ended, hg.nextStep, hg.pauses, hg.profile, hg.frame⟩

/-- A PAUSED program ends by its job's fields, not by the run that the job held. -/
theorem pauseEnded_of_run {drop : Bool} {j : Job} {q r : Run} {c : EndCause} {s u : State}
    (he : PauseEnded drop { j with run := some q } r c s u) : PauseEnded drop j r c s u :=
  ⟨he.records, he.links, he.job, he.profile, he.monitor, he.stops, he.retracts, he.stays, he.frame⟩

/-- R57 to R59: a normal end, by its cause. -/
theorem endStep_normal {s : State} {j : Job} {r q : Run} {h : InHand} {c : EndCause} (stop : Int)
    (hj : s.job = some { j with run := some q }) (hr : q = r) (hh : r.inHand = some h)
    (hc : c = normalEnd (bodyKind h.record.body)) : GoesOn j r h c stop s (endStep c stop false s) := by
  subst hr hc
  exact goesOn_of_run (endStep_goes_on stop false hj rfl hh)

section
variable {s : State} {h : InHand} (enc : Int)

/-- R74, R75, R84: within 3 µm of a target. -/
theorem arrived_iff (position target : Int) : arrived position target = true ↔ (position - target).natAbs ≤ 3 :=
  decide_eq_true_iff

/-- R74: MOVE_REACHED with a MOVE or RETRACT step in hand. -/
theorem exec_moveReached {t : Int} (hh : (latched enc s).inHand = some h) (ht : targetOf h.record.body = some t) :
    exec (.moveReached enc) s = done (if arrived (enc - s.motion.zero) t then
      endStep .reached (enc - s.motion.zero) false
        { latched enc s with motion := { s.motion with enc := enc, ramp := .zero } }
      else latched enc s) := by
  simp only [exec, execMoveReached, latch_eq, takeMoveReached, hh, Option.bind_some, ht]
  rfl

/-- R75: PROBE_LIMIT_ARRIVAL with a PROBE step in hand. -/
theorem exec_probeLimitArrival {t : Int} (hh : (latched enc s).inHand = some h) (ht : probeLimit h.record.body = some t) :
    exec (.probeLimitArrival enc) s = done (if arrived (enc - s.motion.zero) t then
      endStep .noTouch (enc - s.motion.zero) false
        { latched enc s with motion := { s.motion with enc := enc, ramp := .zero } }
      else latched enc s) := by
  simp only [exec, execProbeLimitArrival, latch_eq, takeProbeArrival, hh, Option.bind_some, ht]
  rfl

/-- R77: DWELL_ELAPSED with a DWELL step in hand. -/
theorem exec_dwellElapsed (hh : (latched enc s).inHand = some h) (hk : bodyKind h.record.body = .dwell) :
    exec (.dwellElapsed enc) s = done (endStep .elapsed (enc - s.motion.zero) false (latched enc s)) := by
  have hdwell : (latched enc s).dwelling = true := by simp [State.dwelling, hh, hk]
  exact if_pos hdwell

/-- R73: HANDOVER_END with a step in hand. -/
theorem exec_handoverEnd (hh : (latched enc s).inHand = some h) : exec (.handoverEnd enc) s = done (if h.endsNow then
      endStep (handOverCause h.record.body) (enc - s.motion.zero) false (latched enc s) else latched enc s) := by
  simp only [exec, execHandoverEnd, latch_eq, hh, ← apply_ite done]
  rfl

/-- R78: STALL of commanded motion with a step in hand. -/
theorem exec_stall_running (hh : (latched enc s).inHand = some h) (hst : s.motion.stroke = .running)
    (hc : s.motion.commanded ≠ 0) :
    exec (.stall enc) s = done (endStep .stall (enc - s.motion.zero) false (latched enc s)) := by
  have hst' : (latched enc s).motion.stroke = .running := hst
  have hc' : (latched enc s).motion.commanded ≠ 0 := hc
  simp only [exec, execStall, latch_eq, takeStall, if_neg hc', hst', interrupt_inHand .stall false hh]
  rfl

/-- R79: TRAVEL_LIMIT with a step in hand. -/
theorem exec_travelLimit (hh : (latched enc s).inHand = some h) : exec (.travelLimit enc) s = done
      (if 199500 ≤ enc - s.motion.zero then endStep .travelLimit (enc - s.motion.zero) false (latched enc s)
        else latched enc s) := by
  simp only [exec, execTravelLimit, latch_eq, takeTravelLimit, hh, Option.isSome_some, true_and]
  rfl

/-- R74, R75, R77: the cause of an end given at a hand-over is the normal one, but for a PROBE. -/
theorem handOverCause_eq {b : StepBody} (hb : bodyKind b ≠ .probe) : handOverCause b = normalEnd (bodyKind b) := by
  cases b with
  | probe => exact absurd rfl hb
  | _ => rfl

end

/-- Settles O36: each end latches its count and is a normal end of the step in hand, after which the program goes on. -/
theorem normalEndsGoOn : Obligations.NormalEndsGoOn := by
  intro j r h enc s hj hr hh h' r' position
  have hjob : (latched enc s).job = some { j with run := some r' } := latched_job enc hj hr hh
  have hhand : (latched enc s).inHand = some h' := inHand_of_job hjob rfl rfl
  have hgiven {c : EndCause} (hends : h.endsNow = true) (hk : bodyKind h.record.body ≠ .probe)
      (hc : c = normalEnd (bodyKind h.record.body)) :
      ∃ u, GoesOn j r' h' c position (latched enc s) u ∧ exec (.handoverEnd enc) s = .next u.arbiters := by
    refine ⟨_, endStep_normal position hjob rfl rfl hc, ?_⟩
    rw [exec_handoverEnd enc hhand, if_pos (show h'.endsNow = true from hends), handOverCause_eq (b := h'.record.body) hk, hc]
    rfl
  refine ⟨fun t ⟨v, hb⟩ => ?_, fun t hb => ?_, fun hends hk => ?_, fun hends hk => ?_, fun hends => ?_⟩
  · have htarget : targetOf h'.record.body = some (t : Int) := by rcases hb with hb | hb <;> simp [h', hb, targetOf]
    have hnormal : EndCause.reached = normalEnd (bodyKind h'.record.body) := by
      rcases hb with hb | hb <;> simp [h', hb, bodyKind, normalEnd]
    rw [exec_moveReached enc hhand htarget]
    refine ⟨fun hnear => ⟨_, endStep_normal position hjob rfl rfl hnormal, ?_⟩, fun hfar => ?_⟩
    · rw [if_pos ((arrived_iff _ _).2 hnear)]; rfl
    · rw [if_neg (mt (arrived_iff _ _).1 (Nat.not_le.2 hfar))]; rfl
  · have hk : bodyKind h'.record.body = .dwell := by simp [h', hb, bodyKind]
    exact ⟨_, endStep_normal position hjob rfl rfl (by rw [hk]; rfl), exec_dwellElapsed enc hhand hk⟩
  · exact hgiven hends (by rcases hk with hk | hk <;> simp [hk]) (by rcases hk with hk | hk <;> rw [hk] <;> rfl)
  · exact hgiven hends (by simp [hk]) (by rw [hk]; rfl)
  · rw [exec_handoverEnd enc hhand, if_neg (by simp [h', hends])]; rfl

/-! ## The head leaves READY, an input enters the open-guard set -/

/-- R24, R111: a detach in READY. -/
theorem exec_headDetach_ready {s : State} (enc : Int) (h : s.head.status = .ready) : exec (.headDetach enc) s =
    done (sensingLost (fingersStop (headGone (tareEnded (latched enc s))))) := by
  have hexec : exec (.headDetach enc) s = done (detach (latched enc s)) := if_neg (by simp [latch_eq, h])
  rw [hexec, detach_eq, latched_head, if_pos h]

/-- R37, R111: an automatic retrain. -/
theorem exec_automaticRetrain_ready {s : State} (enc : Int) (h : s.head.status = .ready) (hb : ∃ n ∈ s.head.bad, 8 ≤ n) :
    exec (.automaticRetrain enc) s =
      done (sensingLost (fingersStop (trainingFrom (attemptOf s.head.width) (tareEnded (latched enc s))))) := by
  have hf : ¬ s.head.framing = true := by
    rw [framing_iff]
    obtain ⟨n, hn, h8⟩ := hb
    exact fun hready => absurd (hready.2 n hn) (by omega)
  have hexec : exec (.automaticRetrain enc) s = done (beginTraining (firstAttempt s.head.width) (latched enc s)) :=
    if_pos ⟨h, hf⟩
  rw [hexec, beginTraining_eq, latched_head, if_pos h, firstAttempt_eq]

/-- R88: the columns' samples stop in a running job. -/
theorem fingersStop_job {s : State} {j : Job} {r : Run} (hj : s.job = some j) (hr : j.run = some r) :
    (fingersStop s).job = some { j with run := some { r with fingersGone := true } } := by
  simp [fingersStop, hj, hr]

section
variable {s : State} {i : Nat} (enc : Int) (hi : 1 ≤ i) (h8 : i ≤ 8) (hl : s.guards.states.length = 8) (he : s.openSet = [])
  (hk : s.guards.kind i ≠ .absent)

include hi h8 hl he hk

/-- R163, R165 to R167: an input of a counting kind opens the set: its entry acts, then the set is marked and announced. -/
theorem exec_guardInputChange_opens {u : State}
    (hentry : guardEntry (s.guards.kind i)
      { latched enc s with guards := { s.guards with states := s.guards.states.set (i - 1) .opened } } = u) :
    let opened := { s.guards with states := s.guards.states.set (i - 1) .opened }
    exec (.guardInputChange i true enc) s = .next (State.arbiters (State.raise
      { u with guards := { opened with firstOpened := some (.input i), openTicks := 0 } }
      (.guardOpen i (s.guards.kind i) [i]))) := by
  intro opened
  have hexec : exec (.guardInputChange i true enc) s = done (takeGuardChange i .opened (latched enc s)) :=
    if_pos ((between_iff 1 8 i).2 ⟨hi, h8⟩)
  have hset : opened.openSet = [i] := openSet_entered hi h8 hl he hk
  have hguards : (guardEntry (s.guards.kind i) { latched enc s with guards := opened }).guards = opened :=
    (guardEntry_head_guards _ _).2
  have hopen : takeGuardChange i .opened (latched enc s)
      = guardOpened i (guardEntry (s.guards.kind i) { latched enc s with guards := opened }) :=
    takeGuardChange_enters (s := latched enc s) hi h8 hl he hk
  rw [hexec, hopen, guardOpened, State.openSet, hguards, hset, hentry]
  rfl

end

/-- R167: an input's entry ends the step in hand. -/
theorem guardEntry_inHand {h : InHand} (k : GuardKind) (s : State) (hst : s.motion.stroke = .running) (hh : s.inHand = some h) :
    guardEntry k s = endStep .guard s.motion.position (decide (k = .estop)) s := by
  simp only [guardEntry, hst, interrupt_inHand _ _ hh]

/-- R59, R167: an input's entry ends a PAUSED program. -/
theorem guardEntry_paused (k : GuardKind) (s : State) (hst : s.motion.stroke = .paused) (hh : s.inHand = none) :
    guardEntry k s = endPaused .guard (decide (k = .estop)) s := by
  simp only [guardEntry, hst, interrupt_paused _ _ hh hst]

/-- What a departure of the head from READY has left alone: the job and the motion block as the count latched them, and the
monitor. -/
structure Departed (enc : Int) (s u : State) : Prop where
  job : u.job = (latched enc s).job
  motion : u.motion = (latched enc s).motion
  monitor : u.monitor = s.monitor

theorem departed_headGone (enc : Int) (s : State) : Departed enc s (headGone (tareEnded (latched enc s))) where
  job := by simp [headGone, State.raise]
  motion := by simp [headGone, State.raise]
  monitor := by simp [headGone, State.raise]

theorem departed_trainingFrom (attempt : Nat) (enc : Int) (s : State) :
    Departed enc s (trainingFrom attempt (tareEnded (latched enc s))) where
  job := by simp [trainingFrom]
  motion := by simp [trainingFrom]
  monitor := by simp [trainingFrom]

section
variable {enc : Int} {s u : State} {j : Job} {r : Run} (hu : Departed enc s u) (hjob : (latched enc s).job = some j)
  (hr : j.run = some r)

include hu hjob hr

/-- R111: a departure before the PRESS step has ended aborts the step in hand at the count latched. -/
theorem Departed.aborts {h : InHand} (hh : r.inHand = some h)
    (hp : s.monitor.phase = .watching ∨ s.monitor.phase = .pressing) :
    Aborted false { r with fingersGone := true } h .sensingLost (enc - s.motion.zero) (fingersStop u)
      (sensingLost (fingersStop u)) := by
  have hphase : (fingersStop u).monitor.phase = .watching ∨ (fingersStop u).monitor.phase = .pressing := hu.monitor ▸ hp
  have hposition : (fingersStop u).motion.position = enc - s.motion.zero := congrArg Motion.position hu.motion
  rw [← hposition]
  exact sensingLost_aborts hphase (fingersStop_job (hu.job.trans hjob) hr) rfl hh

/-- R59, R111: a departure before the PRESS step has ended ends a PAUSED program. -/
theorem Departed.endsPause (hh : r.inHand = none) (hst : s.motion.stroke = .paused) (hp : s.monitor.phase = .watching) :
    PauseEnded false j { r with fingersGone := true } .sensingLost (fingersStop u) (sensingLost (fingersStop u)) := by
  have hphase : (fingersStop u).monitor.phase = .watching := hu.monitor ▸ hp
  have hstroke : (fingersStop u).motion.stroke = .paused := (congrArg Motion.stroke hu.motion).trans hst
  exact pauseEnded_of_run (sensingLost_paused (.inl hphase) (fingersStop_job (hu.job.trans hjob) hr) rfl hh hstroke)

end

/-- Settles O43: each event latches its count and aborts the step in hand there. -/
theorem abortsEndTheProgram : Obligations.AbortsEndTheProgram := by
  intro j r h enc s hj hr hh hst h' r' position
  have hjob : (latched enc s).job = some { j with run := some r' } := latched_job enc hj hr hh
  have hhand : (latched enc s).inHand = some h' := inHand_of_job hjob rfl rfl
  have habort {c : EndCause} {drop : Bool} {u : State} (hu : u.job = (latched enc s).job) (hc : ∀ k, c ≠ normalEnd k)
      (hd : c ≠ .driveFault) : Aborted drop r' h' c position u (endStep c position drop u) :=
    endStep_aborts c position drop (hu.trans hjob) rfl rfl (hc _) hd
  refine ⟨fun hc => ?_, fun hfar => ?_, fun hnear => ?_, fun l v a b hb => ⟨fun hnear => ?_, fun hends => ?_⟩,
    fun i hi h8 hl he hk => ?_, fun hready hphase => ⟨?_, fun hbad => ?_⟩⟩
  · exact ⟨_, habort rfl nofun nofun, exec_stall_running enc hhand hst hc⟩
  · refine ⟨_, habort rfl nofun nofun, ?_⟩
    rw [exec_travelLimit enc hhand, if_pos hfar]; rfl
  · rw [exec_travelLimit enc hhand, if_neg (by omega)]; rfl
  · have hlimit : probeLimit h'.record.body = some (l : Int) := by simp [h', hb, probeLimit]
    refine ⟨_, habort rfl nofun nofun, ?_⟩
    rw [exec_probeLimitArrival enc hhand hlimit, if_pos ((arrived_iff _ _).2 hnear)]; rfl
  · have hcause : handOverCause h'.record.body = .noTouch := by simp [h', hb, handOverCause]
    refine ⟨_, habort rfl nofun nofun, ?_⟩
    rw [exec_handoverEnd enc hhand, if_pos (show h'.endsNow = true from hends), hcause]; rfl
  · intro opened
    exact ⟨_, habort rfl nofun nofun, exec_guardInputChange_opens enc hi h8 hl he hk
      (guardEntry_inHand _ { latched enc s with guards := opened } hst hhand)⟩
  · exact ⟨_, (departed_headGone enc s).aborts hjob rfl rfl hphase, exec_headDetach_ready enc hready⟩
  · exact ⟨_, (departed_trainingFrom _ enc s).aborts hjob rfl rfl hphase, exec_automaticRetrain_ready enc hready hbad⟩

/-! ## The ends of a PAUSED program (R59) -/

/-- R59: UNDERRUN_TIMEOUT in PAUSED with the timer running. -/
theorem exec_underrunTimeout {s : State} {j : Job} {r : Run} (enc : Int) (hj : s.job = some j) (hr : j.run = some r)
    (hh : r.inHand = none) (hst : s.motion.stroke = .paused) (hu : r.underrun = true) :
    exec (.underrunTimeout enc) s = done (endPaused .underrun false (latched enc s)) := by
  have hruns : (latched enc s).underrunRuns = true := by
    simp [State.underrunRuns, run_of_job (latched_job_idle enc hj hr hh) hr, hu, show (latched enc s).motion.stroke = _ from hst]
  exact if_pos hruns

/-- Settles O37: each event takes the PAUSED program's end, whose follow-on goes by whether the ram rests. -/
theorem pausedProgramsEnd : Obligations.PausedProgramsEnd := by
  intro j r h enc s hj hr hended hh hst
  have hjob : (latched enc s).job = some j := latched_job_idle enc hj hr hh
  have hidle {u : State} (hu : u.job = some j) : u.inHand = none := by simp [State.inHand, run_of_job hu hr, hh]
  refine ⟨fun hu => ?_, fun ha => ?_, fun i hi h8 hl he hk => ?_, fun hready hphase => ⟨?_, fun hbad => ?_⟩⟩
  · exact ⟨_, endPaused_ends .underrun false hjob hr hst nofun, exec_underrunTimeout enc hj hr hh hst hu⟩
  · have hj' : (heard h s).job = some j := by simpa using hj
    have hst' : (heard h s).motion.stroke = .paused := by simpa using hst
    refine ⟨_, endPaused_ends .stopped false hj' hr hst' nofun, ?_⟩
    rw [exec_stop_of_admitted ha, takeStop_job (by simp [hst]), stopJob_running (run_of_job hj' hr), hended,
      if_neg (by simp), interrupt_paused _ _ (hidle hj') hst']
  · intro opened
    exact ⟨_, endPaused_ends (s := { latched enc s with guards := opened }) .guard _ hjob hr hst nofun,
      exec_guardInputChange_opens enc hi h8 hl he hk
        (guardEntry_paused _ { latched enc s with guards := opened } hst (hidle hjob))⟩
  · exact ⟨_, (departed_headGone enc s).endsPause hjob hr hh hst hphase, exec_headDetach_ready enc hready⟩
  · exact ⟨_, (departed_trainingFrom _ enc s).endsPause hjob hr hh hst hphase, exec_automaticRetrain_ready enc hready hbad⟩

end Sys2Proof.Machine
end

section
/-! PROOFS. The rest report and its judgement (R65, R119, R143, R144, R157). -/

namespace Sys2Proof.Machine

/-! ## The one open record (R137) -/

section
variable {rec : Record} {before after : List Record} (hopen : rec.state = .opened)
  (hothers : ∀ q ∈ before ++ after, q.state ≠ .opened)

include hopen hothers

theorem find_opened : (before ++ rec :: after).find? (fun r => decide (r.state = .opened)) = some rec := by
  have hbefore : ∀ q ∈ before, ¬ decide (q.state = .opened) = true := fun q hq => by
    simpa using hothers q (List.mem_append_left _ hq)
  rw [List.find?_append, List.find?_eq_none.2 hbefore, List.find?_cons_of_pos (by simpa using hopen)]
  rfl

theorem onOpenRecord_opened (f : Record → Record) : onOpenRecord f (before ++ rec :: after) = before ++ f rec :: after := by
  have hkept {l : List Record} (hl : ∀ q ∈ l, q.state ≠ .opened) : onOpenRecord f l = l :=
    (List.map_congr_left fun q hq => if_neg (hl q hq)).trans (List.map_id l)
  have hbefore := hkept (l := before) fun q hq => hothers q (List.mem_append_left _ hq)
  have hafter := hkept (l := after) fun q hq => hothers q (List.mem_append_right _ hq)
  calc onOpenRecord f (before ++ rec :: after)
      = onOpenRecord f before ++ f rec :: onOpenRecord f after := by simp [onOpenRecord, hopen]
    _ = before ++ f rec :: after := by rw [hbefore, hafter]

end

/-! ## The rest report (R65, R143, R157) -/

/-- R157: the grounds of a hold, in words. -/
theorem heldBy_iff (r : Record) : heldBy r = true ↔ r.level = .qp ∨ r.audit = true ∨ r.verdict ≠ some .accept := by
  simp [heldBy, or_assoc]

/-- R65: the rest report may be taken of an ended program. -/
theorem restReady_of_ended {s : State} {r : Run} (hr : s.run = some r) (hended : r.ended = true)
    (hprofile : s.profile.complete = true)
    (hrest : r.restMade = true ∨ s.motion.stroke = .idle ∨ s.motion.stroke = .faulted) : restReady s = true := by
  simp [restReady, hr, hended, hprofile, or_assoc, hrest]

/-- R119, R134: a judged record bears the press verdict. -/
theorem judge_verdict (p : Profile) (knee : Option Nat) (r : Record) : ∃ v, (judge p knee r).verdict = some v := ⟨_, rfl⟩

/-- R143, R144, R157: the record that is settled, announced. -/
theorem announce_settled {s : State} {r : Record} {v : PressVerdict} (hv : r.verdict = some v) :
    announce (settleRecord r) s = State.raise { s with
      store := { s.store with
        records := onOpenRecord (fun _ => { r with state := if heldBy r then .held else .complete }) s.store.records }
      qual := if heldBy r then s.qual.hold r.press else s.qual }
      (.pressDone r.press v (if heldBy r then .held else .complete)) := by
  have hheld : heldBy (settleRecord r) = heldBy r := rfl
  have hverdict : (settleRecord r).verdict = some v := hv
  simp only [announce, hheld, hverdict, Option.getD_some]
  simp only [settleRecord]
  cases heldBy r <;> rfl

/-- Settles O38: the one open record is found, judged and announced. -/
theorem restReportJudgesThePress : Obligations.RestReportJudgesThePress := by
  intro r rec before after s hr hended hprofile hrest hrecords hopen hothers judged held state
  obtain ⟨v, hv⟩ := judge_verdict s.profile s.monitor.knee rec
  have hfind := hrecords ▸ find_opened hopen hothers
  have htaken : takeRestReport s = announce (settleRecord judged) (dropJob s) := by simp only [takeRestReport, hfind]; rfl
  have hexec : exec .restReport s = done (takeRestReport s) := if_pos (restReady_of_ended hr hended hprofile hrest)
  have hstore : (dropJob s).store.records = before ++ rec :: after := hrecords
  refine ⟨v, hv, ?_⟩
  rw [hexec, htaken, announce_settled hv, hstore, onOpenRecord_opened hopen hothers]
  have hstate : (if heldBy judged then RecordState.held else .complete) = state := by simp only [heldBy_iff]; rfl
  have hqual {a b : Qualification} : (if heldBy judged then a else b) = if held then a else b := by simp only [heldBy_iff]; rfl
  rw [hstate, hqual]
  rfl

end Sys2Proof.Machine
end

section
/-! PROOFS. HOME and the course of a homing (R62, R70, R71). -/

namespace Sys2Proof.Machine

/-! ## HOME (R70) -/

section
variable {s : State}

/-- R70: HOME finds the ram at rest, nothing running and the drive ready. -/
structure Homable (s : State) : Prop where
  stroke : s.motion.stroke = .unhomed ∨ s.motion.stroke = .idle
  ramp : s.motion.ramp.output = 0
  run : s.run = none
  tare : s.head.tare = none
  ready : s.motion.driveReady = true
  fault : s.motion.faultInput = false

/-- R70: the checks of HOME that answer BUSY. -/
theorem homeRefusal_busy (h : ¬ Homable s) : homeRefusal s = some .busy := by
  unfold homeRefusal
  by_cases hstill : (s.motion.stroke = .unhomed ∨ s.motion.stroke = .idle) ∧ s.motion.ramp.output = 0
  · by_cases hrun : s.jobRunning = true ∨ s.head.tare.isSome = true
    · rw [if_neg (not_not_intro hstill), if_pos hrun]
    · have hdrive : ¬ s.motion.driveReady = true ∨ s.motion.faultInput = true := by
        by_contra hdrive
        obtain ⟨hnone, htare⟩ : s.run = none ∧ s.head.tare = none := by simpa [State.jobRunning] using hrun
        obtain ⟨hready, hfault⟩ : s.motion.driveReady = true ∧ s.motion.faultInput = false := by simpa using hdrive
        exact h ⟨hstill.1, hstill.2, hnone, htare, hready, hfault⟩
      rw [if_neg (not_not_intro hstill), if_neg hrun, if_pos hdrive]
  · rw [if_pos hstill]

/-- R70: the last check of HOME. -/
theorem homeRefusal_homable (h : Homable s) : homeRefusal s = if s.openSet ≠ [] then some .guardOpen else none := by
  simp [homeRefusal, h.stroke, h.ramp, State.jobRunning, h.run, h.tare, h.ready, h.fault]

@[simp] theorem heard_homeRefusal (h : Header) (s : State) : homeRefusal (heard h s) = homeRefusal s := by
  unfold heard
  cases h.link <;> rfl

section
variable {h : Header} {closed : Bool} (ha : admitted h .home s = true)

include ha

/-- R70: HOME refused. -/
theorem exec_home_refused {st : Status} (hc : homeRefusal s = some st) : exec (.home h closed) s = refusedWith h st s := by
  have hexec : exec (.home h closed) s = done (serveHome closed h.link h.tag (heard h s)) := exec_of_admitted rfl ha
  rw [hexec, serveHome, heard_homeRefusal, hc]
  rfl

/-- R70: HOME taken. -/
theorem exec_home_taken (hc : homeRefusal s = none) :
    exec (.home h closed) s = answered h .ok [] { heard h s with motion := Motion.home closed s.motion } := by
  have hexec : exec (.home h closed) s = done (serveHome closed h.link h.tag (heard h s)) := exec_of_admitted rfl ha
  rw [hexec, serveHome, heard_homeRefusal, hc, ← heard_motion h s]
  rfl

end

end

/-! ## The course of a homing (R71) -/

/-- R71, R82: the motion block as a homing is ended early with a result. -/
def Motion.homingEnded (drop : Bool) (r : HomingResult) (m : Motion) : Motion :=
  { m with
    stroke := .stopping, commanded := 0, ramp := if drop then .zero else slowRamp 2000 m.ramp, homing := r, phase := .none
    stop := some {
      cause := .homing r, rate := if drop then 2000 else rateInForce 2000 m.ramp, dropped := drop, follow := .unhomed } }

/-- R71, R82: a homing ended early acts on the motion block alone. -/
theorem endHoming_eq (r : HomingResult) (drop : Bool) (s : State) :
    endHoming r drop s = { s with motion := s.motion.homingEnded drop r } := by
  simp [endHoming, beginStop, Motion.homingEnded, Config.slowRate]

section
variable {s : State} (hst : s.motion.stroke = .homing)

include hst

theorem exec_homeSwitchClosed_seeking (hp : s.motion.phase = .seeking) : exec .homeSwitchClosed s =
    .next (State.arbiters { s with motion := { s.motion with
      commanded := 0, ramp := slowRamp 2000 s.motion.ramp, phase := .settling } }) := if_pos ⟨hst, hp⟩

theorem exec_homingTimeout_seeking (hp : s.motion.phase = .seeking) :
    exec .homingTimeout s = .next (State.arbiters { s with motion := s.motion.homingEnded false .notFound }) := by
  have hexec : exec .homingTimeout s = done (endHoming .notFound false s) := if_pos ⟨hst, hp⟩
  rw [hexec, endHoming_eq]
  rfl

theorem exec_homingRest_settling (enc : Int) (hp : s.motion.phase = .settling) : exec (.homingRest enc) s =
    .next (State.arbiters { latched enc s with motion := { s.motion with
      enc := enc, ramp := .zero, phase := .taring enc 0 0 } }) := if_pos ⟨hst, hp⟩

theorem exec_homingComplete_full {rest sum : Int} (hp : s.motion.phase = .taring rest sum 64) :
    exec .homingComplete s = .next (State.arbiters { s with motion := Motion.homed rest sum s.motion }) := by
  have hdone : ramTareDone s.motion.phase = some (rest, sum) := by rw [hp]; rfl
  simp only [exec, execHomingComplete, hdone, if_pos hst]
  rfl

end

/-- R71: HOMING_COMPLETE before the 64th sample. -/
theorem exec_homingComplete_early {s : State} {rest sum : Int} {n : Nat} (hp : s.motion.phase = .taring rest sum n) (hn : n < 64) :
    exec .homingComplete s = .next s.arbiters := by
  have hshort : ramTareDone s.motion.phase = none := by
    rw [hp]
    exact if_neg (show n ≠ 64 by omega)
  simp only [exec, execHomingComplete, hshort]
  rfl

/-! ## A homing ended early (R62, R71, R167) -/

/-- R62: with no program running, STOP leaves no job. -/
theorem stopJob_of_run_none {s : State} (hr : s.run = none) : stopJob s = { s with job := none } := by
  cases hj : s.job with
  | none => rw [stopJob_none hj, ← hj]
  | some j => exact stopJob_prepared hj (by simpa [State.run, hj] using hr)

/-- R62, R71: STOP in a homing. -/
theorem takeStop_homing {s : State} (hst : s.motion.stroke = .homing) (hr : s.run = none) :
    takeStop s = { s with job := none, motion := s.motion.homingEnded false .stopped } :=
  (if_pos hst).trans (by rw [stopJob_of_run_none hr, endHoming_eq])

/-- R71, R78: STALL of commanded motion in a homing. -/
theorem exec_stall_homing {s : State} (enc : Int) (hst : s.motion.stroke = .homing) (hc : s.motion.commanded ≠ 0) :
    exec (.stall enc) s = .next (State.arbiters { latched enc s with
      motion := Motion.homingEnded false .stall { s.motion with enc := enc } }) := by
  have hst' : (latched enc s).motion.stroke = .homing := hst
  have hc' : (latched enc s).motion.commanded ≠ 0 := hc
  simp only [exec, execStall, latch_eq, takeStall, if_neg hc', hst', endHoming_eq]
  rfl

/-- R71, R167: an input's entry ends a homing. -/
theorem guardEntry_homing (k : GuardKind) (s : State) (hst : s.motion.stroke = .homing) :
    guardEntry k s = { s with motion := s.motion.homingEnded (decide (k = .estop)) .guard } := by
  simp only [guardEntry, hst, endHoming_eq]

/-- Settles O40: HOME check by check, the homing phase by phase, and its early ends. -/
theorem homingRunsItsCourse : Obligations.HomingRunsItsCourse := by
  refine ⟨fun h closed s ha => ?_, fun enc rest sum s hst => ?_, fun h enc s hst hr => ?_⟩
  · intro still drive
    have hbusy (hn : ¬ Homable s) : exec (.home h closed) s = refusedWith h .busy s := exec_home_refused ha (homeRefusal_busy hn)
    have hlate (hs : still) (hr : s.run = none) (ht : s.head.tare = none) (hd : drive) :=
      homeRefusal_homable ⟨hs.1, hs.2, hr, ht, hd.1, hd.2⟩
    refine ⟨fun hs => hbusy fun hm => hs ⟨hm.stroke, hm.ramp⟩, fun _ hb => hbusy fun hm => hb.elim (· hm.run) (· hm.tare),
      fun _ _ _ hd => hbusy fun hm => hd ⟨hm.ready, hm.fault⟩, fun hs hr ht hd hg => exec_home_refused ha ?_,
      fun hs hr ht hd hg => exec_home_taken ha ?_⟩
    · rw [hlate hs hr ht hd, if_pos hg]
    · rw [hlate hs hr ht hd, if_neg (not_not_intro hg)]
  · refine ⟨fun hp => ⟨exec_homeSwitchClosed_seeking hst hp, exec_homingTimeout_seeking hst hp⟩,
      exec_homingRest_settling hst enc, fun hp => ?_, fun n => exec_homingComplete_early⟩
    rw [exec_homingComplete_full hst hp, Motion.homed, tareMean_eq]
  · intro ended
    refine ⟨fun ha => ?_, exec_stall_homing enc hst, fun i hi h8 hl he hk => ?_⟩
    · rw [exec_stop_of_admitted ha, takeStop_homing (by simpa using hst) (by simpa using hr), heard_motion]
      rfl
    · exact exec_guardInputChange_opens enc hi h8 hl he hk (guardEntry_homing _ _ hst)

end Sys2Proof.Machine
end

section
/-! PROOFS. What the invariant of the motion block reads of a state (R68): the ramp output beside the commanded speed, and the
ways into the states that command no speed. -/

namespace Sys2Proof.Machine

/-! ## The ramp output beside the commanded speed (R68, R82) -/

/-- R68, R82: the ramp output lies between zero and the commanded speed that it follows, or falls at one of the stop rates. -/
structure RampSound (c : Int) (r : Ramp) : Prop where
  follows : ∀ v, r = .following v → 0 ≤ v ∧ v ≤ c ∨ c ≤ v ∧ v ≤ 0
  falls : ∀ rate v, r = .falling rate v → v ≠ 0 ∧ (rate = 2000 ∨ rate = 20000)

theorem rampSound_zero (c : Int) : RampSound c .zero where
  follows := fun v h => by cases h; omega
  falls := nofun

theorem rampSound_fallingFrom (c : Int) {rate : Nat} (v : Int) (hrate : rate = 2000 ∨ rate = 20000) :
    RampSound c (fallingFrom rate v) := by
  unfold fallingFrom
  split
  · exact rampSound_zero c
  · next hv => exact ⟨nofun, fun _ _ h => by cases h; exact ⟨hv, hrate⟩⟩

/-- R82: a stop ramp falls at the greater of two stop rates. -/
theorem rampSound_slowRamp {c d : Int} {r : Ramp} {rate : Nat} (hrate : rate = 2000 ∨ rate = 20000) (hr : RampSound c r) :
    RampSound d (slowRamp rate r) := by
  cases r with
  | following v => exact rampSound_fallingFrom d v hrate
  | falling q v =>
    obtain ⟨_, hq⟩ := hr.falls q v rfl
    exact rampSound_fallingFrom d v (by omega)

/-- R73: a ramp output that follows no speed, or falls still, may be given any speed to follow. -/
theorem rampSound_command {r : Ramp} (c : Int) (hr : RampSound 0 r) : RampSound c r where
  follows := fun v h => by have := hr.follows v h; omega
  falls := hr.falls

/-- R68, R73: a ram sample's move of the ramp output. -/
theorem rampSound_next {c goal : Int} {r : Ramp} (hgoal : goal = c ∨ goal = 0) (hr : RampSound c r) :
    RampSound c (r.next goal) := by
  cases r with
  | following v => exact ⟨fun _ h => by cases h; exact speedToward_between _ hgoal (hr.follows v rfl), nofun⟩
  | falling q v =>
    obtain ⟨_, hq⟩ := hr.falls q v rfl
    exact rampSound_fallingFrom c _ hq

/-- R76, R82: the stop rates of the steps. -/
theorem stopRate_rates (k : StepKind) : stopRate k = 2000 ∨ stopRate k = 20000 := by
  by_cases h : k = .press
  · exact .inr (if_pos h)
  · exact .inl (if_neg h)

/-! ## The invariant without the guards -/

/-- R68: the invariant of the motion block but for the open-guard set, which an input's entry makes non-empty before it acts. -/
structure Driven (s : State) : Prop where
  speed : s.motion.commanded ≠ 0 →
    s.motion.stroke = .homing ∨ s.motion.stroke = .running ∨ s.motion.stroke = .retracting
  drive : s.motion.stroke ≠ .unhomed → s.motion.stroke ≠ .faulted → s.motion.driveReady = true
  hand : s.inHand.isSome ↔ s.motion.stroke = .running
  ended : ∀ r, s.run = some r → r.ended = true → r.inHand = none
  course : s.motion.phase ≠ .none → s.motion.stroke = .homing ∧ (s.motion.phase ≠ .seeking → s.motion.commanded = 0)
  ramp : RampSound s.motion.commanded s.motion.ramp

/-- R68: the stroke states in which the open-guard set is empty. -/
def Stroke.guarded (st : Stroke) : Prop := st = .homing ∨ st = .running ∨ st = .paused ∨ st = .retracting

theorem motionSound_iff (s : State) : MotionSound s ↔ Driven s ∧ (s.motion.stroke.guarded → s.openSet = []) :=
  ⟨fun h => ⟨⟨h.speed, h.drive, h.hand, h.ended, h.course, h.follows, h.falls⟩, h.guards⟩,
    fun ⟨h, hg⟩ => ⟨h.speed, hg, h.drive, h.hand, h.ended, h.course, h.ramp.follows, h.ramp.falls⟩⟩

theorem MotionSound.driven {s : State} (h : MotionSound s) : Driven s := ((motionSound_iff s).1 h).1

section
variable {s u : State}

/-- R68: no step is in hand outside RUNNING. -/
theorem Driven.inHand_none (hs : Driven s) (h : s.motion.stroke ≠ .running) : s.inHand = none := by
  rw [← Option.not_isSome_iff_eq_none, hs.hand]
  exact h

/-- R68: no speed is commanded outside the moving states. -/
theorem Driven.commanded_zero (hs : Driven s)
    (h : s.motion.stroke ≠ .homing ∧ s.motion.stroke ≠ .running ∧ s.motion.stroke ≠ .retracting) :
    s.motion.commanded = 0 := by
  by_contra hc
  have := hs.speed hc
  tauto

/-- R71: no homing is under way outside HOMING. -/
theorem Driven.phase_none (hs : Driven s) (h : s.motion.stroke ≠ .homing) : s.motion.phase = .none := by
  by_contra hp
  exact h (hs.course hp).1

/-- A run without a step in hand. -/
theorem run_inHand_none {r : Run} (hh : s.inHand = none) (hr : s.run = some r) : r.inHand = none := by
  simpa [State.inHand, hr] using hh

/-- R68: the invariant with no step in hand and no homing under way. -/
theorem driven_of_no_hand (hst : u.motion.stroke ≠ .running) (hh : u.inHand = none) (hp : u.motion.phase = .none)
    (hspeed : u.motion.commanded ≠ 0 →
      u.motion.stroke = .homing ∨ u.motion.stroke = .running ∨ u.motion.stroke = .retracting)
    (hdrive : u.motion.stroke ≠ .unhomed → u.motion.stroke ≠ .faulted → u.motion.driveReady = true)
    (hramp : RampSound u.motion.commanded u.motion.ramp) : Driven u where
  speed := hspeed
  drive := hdrive
  hand := by simp [hh, hst]
  ended := fun _ hr _ => run_inHand_none hh hr
  course := fun h => absurd hp h
  ramp := hramp

/-- R68: the invariant in a state that commands no speed and asks nothing of the guards. -/
theorem motionSound_of_still (hst : ¬ u.motion.stroke.guarded) (hc : u.motion.commanded = 0) (hp : u.motion.phase = .none)
    (hdrive : u.motion.stroke ≠ .unhomed → u.motion.stroke ≠ .faulted → u.motion.driveReady = true) (hh : u.inHand = none)
    (hramp : RampSound 0 u.motion.ramp) : MotionSound u :=
  (motionSound_iff u).2 ⟨driven_of_no_hand (fun h => hst (.inr (.inl h))) hh hp (fun h => absurd hc h) hdrive (hc ▸ hramp),
    fun h => absurd h hst⟩

end

/-! ## What the invariant reads -/

/-- What `MotionSound` reads of a state. -/
structure DriveView where
  stroke : Stroke
  commanded : Int
  ramp : Ramp
  phase : HomingPhase
  ready : Bool
  openSet : List Nat
  run : Option (Bool × Bool)

/-- Of a running job's part: whether a step is in hand, and whether the program has ended. -/
def Run.handEnded (r : Run) : Bool × Bool := (r.inHand.isSome, r.ended)

/-- What `MotionSound` reads of a state. -/
def driveOf (s : State) : DriveView :=
  { stroke := s.motion.stroke, commanded := s.motion.commanded, ramp := s.motion.ramp, phase := s.motion.phase
    ready := s.motion.driveReady, openSet := s.openSet, run := s.run.map Run.handEnded }

/-- A step is in hand, as the view of the state shows it. -/
theorem inHand_isSome_view (s : State) : s.inHand.isSome = ((driveOf s).run.map Prod.fst).getD false := by
  cases h : s.run with
  | none => simp [driveOf, State.inHand, h]
  | some r => simp [driveOf, State.inHand, h, Run.handEnded]

/-- No ended program has a step in hand, as the view of the state shows it. -/
theorem ended_view (s : State) :
    (∀ r, s.run = some r → r.ended = true → r.inHand = none) ↔ ¬ (driveOf s).run = some (true, true) := by
  cases h : s.run with
  | none => simp [driveOf, h]
  | some r => cases hi : r.inHand <;> simp [driveOf, h, Run.handEnded, hi]

/-- The invariant of the motion block depends on its view alone. -/
theorem motionSound_congr {s u : State} (h : driveOf u = driveOf s) (hs : MotionSound s) : MotionSound u := by
  have hhand : u.inHand.isSome = s.inHand.isSome := by rw [inHand_isSome_view, inHand_isSome_view, h]
  have hended := (ended_view s).1 hs.ended
  rw [← h, ← ended_view] at hended
  simp only [driveOf, DriveView.mk.injEq] at h
  obtain ⟨hst, hc, hr, hp, hd, hg, _⟩ := h
  refine ⟨?_, ?_, ?_, ?_, hended, ?_, ?_, ?_⟩
  · rw [hst, hc]; exact hs.speed
  · rw [hst, hg]; exact hs.guards
  · rw [hst, hd]; exact hs.drive
  · rw [hst, hhand]; exact hs.hand
  · rw [hst, hc, hp]; exact hs.course
  · rw [hc, hr]; exact hs.follows
  · rw [hr]; exact hs.falls

/-! ## The shared updates of the state -/

@[simp] theorem driveOf_onLink (s : State) (l : Link) (f : LinkState → LinkState) :
    driveOf (s.onLink l f) = driveOf s := by cases l <;> rfl
@[simp] theorem driveOf_setRx (s : State) (l : Link) (rx : Receiver) : driveOf (s.setRx l rx) = driveOf s :=
  driveOf_onLink ..
@[simp] theorem driveOf_reply (s : State) (l : Link) (tag : Nat) (st : Status) (b : List Wire) :
    driveOf (s.reply l tag st b) = driveOf s := driveOf_onLink ..
@[simp] theorem driveOf_refuse (s : State) (l : Link) (tag : Nat) (st : Status) :
    driveOf (s.refuse l tag st) = driveOf s := driveOf_reply ..
@[simp] theorem driveOf_raise (s : State) (n : Notice) : driveOf (s.raise n) = driveOf s := rfl
@[simp] theorem driveOf_onRecord (s : State) (f : Record → Record) : driveOf (s.onRecord f) = driveOf s := rfl

/-- A change of the running job's part that leaves whether a step is in hand, and whether the program has ended. -/
theorem driveOf_onRun (s : State) {f : Run → Run} (hf : ∀ r, (f r).handEnded = r.handEnded) :
    driveOf (s.onRun f) = driveOf s := by
  simp [driveOf, State.openSet, Function.comp_def, hf]

@[simp] theorem driveOf_onHand (s : State) (f : InHand → InHand) : driveOf (s.onHand f) = driveOf s :=
  driveOf_onRun s fun r => by simp [Run.handEnded]
@[simp] theorem driveOf_markRest (s : State) : driveOf (markRest s) = driveOf s := driveOf_onRun s fun _ => rfl
@[simp] theorem driveOf_latch (s : State) (enc : Int) : driveOf (s.latch enc) = driveOf s :=
  driveOf_onHand { s with motion := { s.motion with enc := enc } } _

@[simp] theorem markRest_inHand (s : State) : (markRest s).inHand = s.inHand := by
  simp only [markRest, State.inHand, onRun_run]
  cases s.run <;> rfl

@[simp] theorem endProgram_inHand (c : EndCause) (s : State) : (endProgram c s).inHand = s.inHand := by
  have hrun : (endProgram c s).run = s.run.map (fun r => { r with ended := true, underrun := false }) := by
    cases hj : s.job <;> simp [State.run, endProgram, hj]
  simp only [State.inHand, hrun]
  cases s.run <;> rfl

/-! ## The ends of steps and programs (R57 to R64, R82) -/

section
variable {s u : State} {j : Job} {r : Run} {h : InHand} {c : EndCause} {stop : Int} {drop : Bool}

/-- R82: the ramp output as a stop begins, the drive enabled or dropped. -/
theorem rampSound_stop {c : Int} {m : Motion} {rate : Nat} (drop : Bool) (hrate : rate = 2000 ∨ rate = 20000)
    (hr : RampSound c m.ramp) : RampSound 0 (if drop then .zero else slowRamp rate m.ramp) := by
  split
  · exact rampSound_zero 0
  · exact rampSound_slowRamp hrate hr

/-- R61, R82: an abort of the step in hand leaves a stop, which asks nothing of the guards. -/
theorem motionSound_of_aborted (hs : Driven s) (hj : s.job = some j) (hst : s.motion.stroke = .running)
    (ha : Aborted drop r h c stop s u) : MotionSound u := by
  have hjob := ha.job
  rw [hj] at hjob
  have hh : u.inHand = none := by simp [State.inHand, run_of_job hjob rfl]
  have hready : s.motion.driveReady = true := hs.drive (by simp [hst]) (by simp [hst])
  refine motionSound_of_still ?_ ?_ ?_ ?_ hh ?_ <;> rw [ha.motion]
  · simp [Stroke.guarded]
  · exact fun _ _ => hready
  · exact rampSound_stop drop (stopRate_rates _) hs.ramp

/-- R57 to R59: after a normal end of the step in hand the program goes on. -/
theorem motionSound_of_goesOn (hs : MotionSound s) (hst : s.motion.stroke = .running) (hended : r.ended = false)
    (hg : GoesOn j r h c stop s u) : MotionSound u := by
  have hready : s.motion.driveReady = true := hs.drive (by simp [hst]) (by simp [hst])
  have hopen : u.openSet = [] := by
    rw [State.openSet, hg.frame.guards]
    exact hs.guards (.inr (.inl hst))
  have hphase : s.motion.phase = .none := hs.driven.phase_none (by simp [hst])
  have hramp : RampSound 0 (slowRamp (stopRate (bodyKind h.record.body)) s.motion.ramp) :=
    rampSound_slowRamp (stopRate_rates _) hs.driven.ramp
  have hrests {st : Stroke} (hmotion : u.motion = { s.motion with
      stroke := st, commanded := 0, ramp := slowRamp (stopRate (bodyKind h.record.body)) s.motion.ramp })
      (hne : st ≠ .running) (hh : u.inHand = none) : Driven u := by
    refine driven_of_no_hand ?_ hh ?_ ?_ ?_ ?_ <;> rw [hmotion]
    · exact hne
    · exact hphase
    · exact fun h => absurd rfl h
    · exact fun _ _ => hready
    · exact hramp
  rw [motionSound_iff]
  cases hl : h.record.last with
  | true =>
    obtain ⟨hjob, hmotion, _⟩ := hg.ended hl
    exact ⟨hrests hmotion nofun (by simp [State.inHand, run_of_job hjob rfl]), fun _ => hopen⟩
  | false =>
    cases hq : j.queue with
    | nil =>
      obtain ⟨hjob, hmotion, _⟩ := hg.pauses hl hq
      exact ⟨hrests hmotion nofun (by simp [State.inHand, run_of_job hjob rfl]), fun _ => hopen⟩
    | cons rec rest =>
      obtain ⟨hjob, hmotion, _⟩ := hg.nextStep hl rec rest hq
      have hrun := run_of_job hjob rfl
      refine ⟨⟨?_, ?_, ?_, ?_, ?_, ?_⟩, fun _ => hopen⟩
      · simp [hmotion]
      · simp [hmotion, hready]
      · simp [hmotion, State.inHand, hrun]
      · simp [hrun, hended]
      · simp [hmotion, hphase]
      · rw [hmotion]; exact rampSound_command _ hramp

/-- R61: an abort of the step in hand. -/
theorem endStep_aborts_sound (stop : Int) (drop : Bool) (hs : Driven s) (hh : s.inHand = some h)
    (hc : c ≠ normalEnd (bodyKind h.record.body)) (hd : c ≠ .driveFault) : MotionSound (endStep c stop drop s) := by
  obtain ⟨j, r, hj, hr, hin⟩ := job_of_inHand hh
  exact motionSound_of_aborted hs hj (hs.hand.1 (by simp [hh])) (endStep_aborts c stop drop hj hr hin hc hd)

/-- R57, R61: the end of the step in hand with any cause but a drive fault. -/
theorem endStep_keeps_motion (stop : Int) (drop : Bool) (hd : c ≠ .driveFault) (hs : MotionSound s) :
    MotionSound (endStep c stop drop s) := by
  cases hh : s.inHand with
  | none => rwa [show endStep c stop drop s = s by simp [endStep, hh]]
  | some h =>
    by_cases hc : c = normalEnd (bodyKind h.record.body)
    · obtain ⟨j, r, hj, hr, hin⟩ := job_of_inHand hh
      have hended : r.ended = false := by
        by_contra he
        simp [hs.ended r (run_of_job hj hr) (by simpa using he)] at hin
      rw [hc]
      exact motionSound_of_goesOn hs (hs.hand.1 (by simp [hh])) hended (endStep_goes_on stop drop hj hr hin)
    · exact endStep_aborts_sound stop drop hs.driven hh hc hd

/-- R82: a stop begun with no step in hand. -/
theorem beginStop_sound (cause : StopCause) (drop : Bool) (f : FollowOn) (hs : Driven s)
    (hready : s.motion.driveReady = true) (hh : s.inHand = none) :
    MotionSound (beginStop cause Config.slowRate drop f s) :=
  motionSound_of_still (by simp [beginStop, Stroke.guarded]) rfl rfl (fun _ _ => hready) hh
    (rampSound_stop drop (.inl rfl) hs.ramp)

/-- R83, R84: the follow-on of a stop reads the guards itself. -/
theorem takeFollowOn_sound (hs : MotionSound s) (hst : s.motion.stroke = .stopping) : MotionSound (takeFollowOn s) := by
  have hready : s.motion.driveReady = true := hs.drive (by simp [hst]) (by simp [hst])
  have hh := hs.driven.inHand_none (by simp [hst])
  have hc := hs.driven.commanded_zero (by simp [hst])
  have hp := hs.driven.phase_none (by simp [hst])
  have hramp : RampSound 0 s.motion.ramp := hc ▸ hs.driven.ramp
  have hidle : MotionSound (markRest { s with motion := { s.motion with stroke := .idle, stop := none } }) :=
    motionSound_of_still (by simp [Stroke.guarded, markRest]) hc hp (fun _ _ => hready)
      ((markRest_inHand _).trans hh) hramp
  unfold takeFollowOn
  split
  · exact hs
  · split
    · exact motionSound_of_still (by simp [Stroke.guarded]) hc hp (fun _ _ => hready) hh hramp
    · exact hidle
    · split
      · next hopen =>
        exact (motionSound_iff _).2 ⟨driven_of_no_hand nofun hh hp (fun _ => .inr (.inr rfl)) (fun _ _ => hready)
          (rampSound_command _ hramp), fun _ => hopen.1⟩
      · exact hidle

/-- R59, R61: the end of a PAUSED program with any cause but a drive fault. -/
theorem endPaused_sound (drop : Bool) (hd : c ≠ .driveFault) (hs : Driven s) (hst : s.motion.stroke = .paused) :
    MotionSound (endPaused c drop s) := by
  have hready : s.motion.driveReady = true := hs.drive (by simp [hst]) (by simp [hst])
  have hh : (endProgram c s).inHand = none := (endProgram_inHand c s).trans (hs.inHand_none (by simp [hst]))
  have hended : Driven (endProgram c s) :=
    driven_of_no_hand (by simp [endProgram, hst]) hh (hs.phase_none (by simp [hst])) hs.speed hs.drive hs.ramp
  have hstop := beginStop_sound (.cause c) drop (followOf c) hended hready hh
  simp only [endPaused, if_neg hd]
  split
  · exact takeFollowOn_sound hstop rfl
  · exact hstop

/-- R59, R61: an abort cause that reaches the program. -/
theorem interrupt_keeps_motion (drop : Bool) (hd : c ≠ .driveFault) (hs : MotionSound s) : MotionSound (interrupt c drop s) := by
  unfold interrupt
  split
  · exact endStep_keeps_motion _ drop hd hs
  · split
    · next hp => exact endPaused_sound drop hd hs.driven hp
    · exact hs

/-- R71: a homing ended early. -/
theorem endHoming_sound (res : HomingResult) (drop : Bool) (hs : Driven s) (hst : s.motion.stroke = .homing) :
    MotionSound (endHoming res drop s) := by
  have hready : s.motion.driveReady = true := hs.drive (by simp [hst]) (by simp [hst])
  have hset : Driven { s with motion := { s.motion with homing := res } } :=
    ⟨hs.speed, hs.drive, hs.hand, hs.ended, hs.course, hs.ramp⟩
  exact beginStop_sound (.homing res) drop .unhomed hset hready (hs.inHand_none (by simp [hst]))

/-- R167: an input's entry into the open-guard set leaves the ram in a state that the set may stop. -/
theorem guardEntry_sound (k : GuardKind) (hs : Driven s) : MotionSound (guardEntry k s) := by
  have hsame (hst : ¬ s.motion.stroke.guarded) : MotionSound s := (motionSound_iff s).2 ⟨hs, fun h => absurd h hst⟩
  simp only [guardEntry]
  split
  case h_1 hst => exact hsame (by simp [hst, Stroke.guarded])
  case h_2 hst => exact endHoming_sound _ _ hs hst
  case h_3 hst => exact hsame (by simp [hst, Stroke.guarded])
  case h_4 hst =>
    obtain ⟨h, hh⟩ := Option.isSome_iff_exists.1 (hs.hand.2 hst)
    rw [interrupt_inHand _ _ hh]
    exact endStep_aborts_sound _ _ hs hh (by cases bodyKind h.record.body <;> nofun) nofun
  case h_5 hst =>
    rw [interrupt_paused _ _ (hs.inHand_none (by simp [hst])) hst]
    exact endPaused_sound _ nofun hs hst
  case h_6 hst =>
    have hstop := hsame (by simp [hst, Stroke.guarded])
    split
    · exact motionSound_of_still (by simp [dropStop, hst, Stroke.guarded]) (hs.commanded_zero (by simp [hst]))
        (hs.phase_none (by simp [hst])) hs.drive (hs.inHand_none (by simp [hst])) (rampSound_zero 0)
    · exact hstop
  case h_7 hst =>
    exact beginStop_sound _ _ _ hs (hs.drive (by simp [hst]) (by simp [hst])) (hs.inHand_none (by simp [hst]))
  case h_8 hst => exact hsame (by simp [hst, Stroke.guarded])

/-- R80: a drive fault, whose own line may be gone already; in FAULTED it is none. -/
theorem driveFault_sound (src : FaultSource) (hfaulted : s.motion.stroke = .faulted → MotionSound s) :
    MotionSound (driveFault src s) := by
  have hstill {v : State} (hv : v.motion = (faultTaken src s).motion) (hh : v.inHand = none) : MotionSound v := by
    refine motionSound_of_still ?_ ?_ ?_ ?_ hh ?_ <;> rw [hv]
    · simp [faultTaken, Stroke.guarded]
    · rfl
    · rfl
    · exact fun _ hf => absurd rfl hf
    · exact rampSound_zero 0
  by_cases hf : s.motion.stroke = .faulted
  · rw [driveFault_of_faulted src hf]
    exact hfaulted hf
  · cases hh : s.inHand with
    | some h =>
      obtain ⟨j, r, hj, hr, hin⟩ := job_of_inHand hh
      rw [driveFault_of_inHand src hf hh, endStep_driveFault (s := faultTaken src s) _ _ hj hr hin]
      exact hstill rfl rfl
    | none =>
      by_cases hp : s.motion.stroke = .paused
      · rw [driveFault_of_paused src hh hp]
        exact hstill rfl ((markRest_inHand _).trans ((endProgram_inHand _ _).trans hh))
      · rw [driveFault_of_rest src hf hh hp]
        exact hstill rfl ((markRest_inHand _).trans hh)

/-- R111: a loss of sensing. -/
theorem sensingLost_keeps_motion (hs : MotionSound s) : MotionSound (sensingLost s) := by
  unfold sensingLost
  split
  · exact interrupt_keeps_motion _ nofun hs
  · exact interrupt_keeps_motion _ nofun hs
  · exact hs
  · exact hs

/-- R88, R111: the head leaves READY. -/
theorem leaveReady_keeps_motion (hs : MotionSound s) : MotionSound (leaveReady s) :=
  sensingLost_keeps_motion (motionSound_congr (driveOf_onRun s fun _ => rfl) hs)

end

end Sys2Proof.Machine
end

section
/-! PROOFS. The events of the equipment keep the invariant of the motion block: samples, the head, the ends of steps and of
retracts, the drive lines, the guards (R22 to R42, R65, R68, R71 to R92, R107 to R116, R163 to R171). -/

namespace Sys2Proof.Machine

section
variable {s : State}

/-! ## Samples (R35, R36, R68, R87 to R92, R107 to R116) -/

@[simp] theorem driveOf_raisePeaks (value : Nat) (s : State) : driveOf (raisePeaks value s) = driveOf s := by
  unfold raisePeaks
  split
  · exact (driveOf_onRecord _ _).trans (driveOf_onHand s _)
  · rfl

/-- R90, R91: touch. -/
theorem takeTouch_keeps_motion (a b : Nat) (position : Int) (value : Nat) (suspect : Bool) (hs : MotionSound s) :
    MotionSound (takeTouch a b position value suspect s) := by
  simp only [takeTouch]
  split <;> exact endStep_keeps_motion _ _ nofun (motionSound_congr (s := s) rfl hs)

/-- R114, R115: the knee. -/
theorem takeKnee_keeps_motion (lim : Limits) (k : Nat) (position : Int) (hs : MotionSound s) :
    MotionSound (takeKnee lim k position s) := by
  simp only [takeKnee]
  refine endStep_keeps_motion _ _ (kneeCause_ne_driveFault _ _) ?_
  split <;> exact motionSound_congr (s := s) rfl hs

/-- R108 to R116: the ram tests. -/
theorem ramTests_keeps_motion (position : Int) (value : Nat) (completed : List Completion) (hs : MotionSound s) :
    MotionSound (ramTests position value completed s) := by
  unfold ramTests
  split
  · split
    · exact endStep_keeps_motion _ _ nofun hs
    · split
      · exact takeKnee_keeps_motion _ _ _ hs
      · split
        · exact endStep_keeps_motion _ _ nofun hs
        · exact hs
  · exact hs

/-- R87: what a ram sample does in a press. -/
theorem useRamSample_keeps_motion (position : Int) (value : Nat) (suspect : Bool) (hs : MotionSound s) :
    MotionSound (useRamSample position value suspect s) := by
  simp only [useRamSample]
  split
  · split
    · exact takeTouch_keeps_motion _ _ _ _ _ hs
    · exact hs
  · split
    · exact ramTests_keeps_motion _ _ _ (motionSound_congr (s := s) rfl hs)
    · exact motionSound_congr (s := s) rfl hs

/-- R71: a ram tare takes a sample and stays what it is. -/
theorem tareRam_eq_none_iff (raw : Int) (p : HomingPhase) : tareRam raw p = .none ↔ p = .none := by
  cases p <;> simp only [tareRam]
  split <;> simp

theorem tareRam_eq_seeking_iff (raw : Int) (p : HomingPhase) : tareRam raw p = .seeking ↔ p = .seeking := by
  cases p <;> simp only [tareRam]
  split <;> simp

/-- R68, R71: the ramp output and the ram tare after a ram sample. -/
theorem motionSound_of_sample {u : State} (raw goal : Int) (hs : MotionSound s)
    (hgoal : goal = s.motion.commanded ∨ goal = 0)
    (hu : driveOf u = { driveOf s with ramp := s.motion.ramp.next goal, phase := tareRam raw s.motion.phase }) :
    MotionSound u := by
  have hramp := rampSound_next hgoal hs.driven.ramp
  refine motionSound_congr (s := { s with motion := { s.motion with
    ramp := s.motion.ramp.next goal, phase := tareRam raw s.motion.phase } }) hu
    { hs with course := ?_, follows := hramp.follows, falls := hramp.falls }
  simp only [ne_eq, tareRam_eq_none_iff, tareRam_eq_seeking_iff]
  exact hs.course

/-- R68, R87: a ram sample. -/
theorem takeRamSample_keeps_motion (raw enc : Int) (hs : MotionSound s) : MotionSound (takeRamSample raw enc s) := by
  have hgoal := rampGoal_or ((tick s).latch enc)
  have htaken {u : State} (hu : driveOf u = { driveOf ((tick s).latch enc) with
      ramp := s.motion.ramp.next ((tick s).latch enc).rampGoal, phase := tareRam raw s.motion.phase }) : MotionSound u :=
    motionSound_of_sample raw _ hs hgoal (hu.trans (by rw [driveOf_latch]; rfl))
  simp only [takeRamSample]
  split
  · exact useRamSample_keeps_motion _ _ _ (htaken (driveOf_raisePeaks _ _))
  · exact htaken rfl

/-- R88, R110: what a finger frame does in a press. -/
theorem useFinger_keeps_motion (r : Run) (finger : List (Nat × FingerSample)) (hs : MotionSound s) :
    MotionSound (useFinger r finger s) := by
  have hbin : MotionSound (if r.fingersGone then s
      else { s with profile := binFingers r.map s.motion.position finger s.profile }) := by
    split <;> exact motionSound_congr (s := s) rfl hs
  simp only [useFinger]
  split
  · split
    · exact endStep_keeps_motion _ _ nofun hbin
    · exact hbin
  · exact hbin

/-- R38, R39, R112: an alert. -/
theorem takeAlert_keeps_motion (a : Alert) (hs : MotionSound s) : MotionSound (takeAlert s a) := by
  simp only [takeAlert]
  split
  · exact motionSound_congr (s := s) rfl hs
  · split
    · unfold positionFailed
      split
      · exact sensingLost_keeps_motion (motionSound_congr (s := s) rfl hs)
      · exact motionSound_congr (s := s) rfl hs
    · exact motionSound_congr (s := s) rfl hs

theorem takeAlerts_keep_motion (alerts : List Alert) (hs : MotionSound s) : MotionSound (alerts.foldl takeAlert s) := by
  induction alerts generalizing s with
  | nil => exact hs
  | cons a alerts ih => exact ih (takeAlert_keeps_motion a hs)

/-- A latched count keeps the invariant. -/
theorem motionSound_latch (enc : Int) (hs : MotionSound s) : MotionSound (s.latch enc) :=
  motionSound_congr (driveOf_latch s enc) hs

/-- R35: a frame instant. -/
theorem takeFrameInstant_keeps_motion (enc : Int) (frames : List LaneFrame) (hs : MotionSound s) :
    MotionSound (takeFrameInstant enc frames s) := by
  have hlatch := motionSound_latch enc hs
  simp only [takeFrameInstant]
  refine takeAlerts_keep_motion _ ?_
  split
  · exact useFinger_keeps_motion _ _ (motionSound_congr (s := s.latch enc) rfl hlatch)
  · exact motionSound_congr (s := s.latch enc) rfl hlatch

/-! ## The head (R22 to R42) -/

@[simp] theorem driveOf_abortTare (s : State) : driveOf (abortTare s) = driveOf s := by
  unfold abortTare
  split
  · rfl
  · exact driveOf_refuse ..

/-- R26: a training run begins. -/
theorem beginTraining_keeps_motion (a : Nat) (hs : MotionSound s) : MotionSound (beginTraining a s) := by
  have htare := motionSound_congr (driveOf_abortTare s) hs
  simp only [beginTraining]
  split
  · exact leaveReady_keeps_motion (motionSound_congr (s := abortTare s) rfl htare)
  · exact motionSound_congr (s := abortTare s) rfl htare

/-- R24: a detach. -/
theorem detach_keeps_motion (hs : MotionSound s) : MotionSound (detach s) := by
  have htare := motionSound_congr (driveOf_abortTare s) hs
  simp only [detach]
  split
  · exact leaveReady_keeps_motion (motionSound_congr (s := abortTare s) rfl htare)
  · exact motionSound_congr (s := abortTare s) rfl htare

@[simp] theorem driveOf_trainingSuccess (s : State) : driveOf (trainingSuccess s) = driveOf s := by
  simp only [trainingSuccess]
  split <;> rfl

@[simp] theorem driveOf_trainingTimeout (passed : List Nat) (s : State) :
    driveOf (trainingTimeout passed s) = driveOf s := by
  simp only [trainingTimeout]
  split <;> rfl

@[simp] theorem driveOf_descriptorAnswered (kind : Nat) (o : Orientation) (s : State) :
    driveOf (descriptorAnswered kind o s) = driveOf s := by
  unfold descriptorAnswered
  split <;> rfl

/-! ## The ends of steps that the motion block sees (R74, R75, R77 to R79), rest (R69, R83, R84) -/

/-- R69: the ram at rest has a ramp output of zero. -/
theorem motionSound_rampZero (hs : MotionSound s) : MotionSound (s.onMotion (fun m => { m with ramp := .zero })) :=
  { hs with follows := (rampSound_zero _).follows, falls := (rampSound_zero 0).falls }

theorem takeMoveReached_keeps_motion (hs : MotionSound s) : MotionSound (takeMoveReached s) := by
  unfold takeMoveReached
  split
  · split
    · exact endStep_keeps_motion _ _ nofun (motionSound_rampZero hs)
    · exact hs
  · exact hs

theorem takeProbeArrival_keeps_motion (hs : MotionSound s) : MotionSound (takeProbeArrival s) := by
  unfold takeProbeArrival
  split
  · split
    · exact endStep_keeps_motion _ _ nofun (motionSound_rampZero hs)
    · exact hs
  · exact hs

theorem takeStall_keeps_motion (hs : MotionSound s) : MotionSound (takeStall s) := by
  unfold takeStall
  split
  · exact hs
  · split
    case h_1 => exact interrupt_keeps_motion _ nofun hs
    case h_2 hst => exact endHoming_sound _ _ hs.driven hst
    case h_3 hst =>
      have hready := hs.drive (by simp [hst]) (by simp [hst])
      exact beginStop_sound _ _ _ hs.driven hready (hs.driven.inHand_none (by simp [hst]))
    all_goals exact hs

theorem takeTravelLimit_keeps_motion (hs : MotionSound s) : MotionSound (takeTravelLimit s) := by
  unfold takeTravelLimit
  split
  · exact endStep_keeps_motion _ _ nofun hs
  · exact hs

/-- R84: a retract comes to rest at position 0. -/
theorem takeRetractReached_keeps_motion (hst : s.motion.stroke = .retracting) (hs : MotionSound s) :
    MotionSound (takeRetractReached s) := by
  unfold takeRetractReached
  split
  · exact motionSound_of_still (by simp [markRest, Stroke.guarded]) rfl (hs.driven.phase_none (by simp [hst]))
      (fun _ _ => hs.drive (by simp [hst]) (by simp [hst]))
      ((markRest_inHand _).trans (hs.driven.inHand_none (by simp [hst]))) (rampSound_zero 0)
  · exact hs

/-! ## The homing (R70, R71) -/

/-- R71: the switch is seen: no speed is commanded from now on. -/
theorem homeSwitch_keeps_motion (hst : s.motion.stroke = .homing) (hs : MotionSound s) :
    MotionSound (s.onMotion (fun m => { m with commanded := 0, ramp := slowRamp Config.slowRate m.ramp, phase := .settling })) :=
  have hramp : RampSound 0 (slowRamp Config.slowRate s.motion.ramp) := rampSound_slowRamp (.inl rfl) hs.driven.ramp
  { hs with
    speed := fun h => absurd rfl h
    course := fun _ => ⟨hst, fun _ => rfl⟩
    follows := hramp.follows
    falls := hramp.falls }

/-- R71: the ram tare begins at the rest point. -/
theorem homingRest_keeps_motion (enc : Int) (hp : s.motion.phase = .settling) (hs : MotionSound s) :
    MotionSound ((s.rest enc).onMotion (fun m => { m with phase := .taring enc 0 0 })) := by
  have hrest : MotionSound (s.rest enc) := motionSound_rampZero (motionSound_latch enc hs)
  obtain ⟨hst, hc⟩ := hs.course (by simp [hp])
  exact { hrest with course := fun _ => ⟨hst, fun _ => hc (by simp [hp])⟩ }

/-- R71: a ram tare that is done is under way. -/
theorem phase_of_ramTareDone {p : HomingPhase} {x : Int × Int} (h : ramTareDone p = some x) : p ≠ .none ∧ p ≠ .seeking := by
  cases p <;> simp [ramTareDone] at h ⊢

/-- R71: the homing completes. -/
theorem homed_keeps_motion {rest sum : Int} (hdone : ramTareDone s.motion.phase = some (rest, sum)) (hs : MotionSound s) :
    MotionSound (s.onMotion (Motion.homed rest sum)) := by
  obtain ⟨hnone, hseeking⟩ := phase_of_ramTareDone hdone
  obtain ⟨hst, hc⟩ := hs.course hnone
  exact motionSound_of_still (by simp [Motion.homed, Stroke.guarded]) (hc hseeking) rfl
    (fun _ _ => hs.drive (by simp [hst]) (by simp [hst])) (hs.driven.inHand_none (by simp [hst]))
    (hc hseeking ▸ hs.driven.ramp)

/-! ## The drive lines (R80, R81) -/

/-- R80: drive-ready lost, in any state but FAULTED a drive fault. -/
theorem readyLost_keeps_motion (hs : MotionSound s) :
    MotionSound (driveFault .readyLost (s.onMotion (fun m => { m with driveReady := false }))) :=
  driveFault_sound _ fun hf => { hs with drive := fun _ h => absurd hf h }

/-- R80, R81: drive-ready present. -/
theorem readyPresent_keeps_motion (hs : MotionSound s) : MotionSound (s.onMotion (fun m => { m with driveReady := true })) :=
  { hs with drive := fun _ _ => rfl }

/-! ## The guards (R163 to R171) -/

/-- R165: where the set was empty and the input of a change does not enter it, it stays empty, whatever the number of inputs. -/
theorem openSet_setState_stays_empty {g : Guards} {i : Nat} (d : Debounced) (hi : 1 ≤ i) (he : g.openSet = [])
    (hn : i ∉ (g.setState i d).openSet) : (g.setState i d).openSet = [] := by
  rw [List.eq_nil_iff_forall_not_mem]
  intro x hx
  by_cases hxi : x = i
  · exact hn (hxi ▸ hx)
  · have hsame (h1 : 1 ≤ x) : (g.setState i d).state x = g.state x := by
      simp [Guards.state, Guards.setState, show ¬ i - 1 = x - 1 by omega]
    obtain ⟨h1, h8, hk, hst⟩ := (mem_openSet _ _).1 hx
    have hmem : x ∈ g.openSet := (mem_openSet g x).2 ⟨h1, h8, hk, hsame h1 ▸ hst⟩
    simp [he] at hmem

/-- R163, R165 to R167: a change of an input's debounced state. -/
theorem takeGuardChange_keeps_motion {i : Nat} (d : Debounced) (hi : 1 ≤ i) (hs : MotionSound s) :
    MotionSound (takeGuardChange i d s) := by
  have hdriven : Driven { s with guards := s.guards.setState i d } :=
    ⟨hs.speed, hs.drive, hs.hand, hs.ended, hs.course, hs.driven.ramp⟩
  simp only [takeGuardChange]
  split
  · next henters =>
    have hentry := guardEntry_sound ((s.guards.setState i d).kind i) hdriven
    split
    · exact motionSound_congr (s := guardEntry _ { s with guards := s.guards.setState i d }) rfl hentry
    · exact hentry
  · next henters =>
    have hset : MotionSound { s with guards := s.guards.setState i d } := by
      refine { hs with guards := fun hst => ?_ }
      have he : s.guards.openSet = [] := hs.guards hst
      exact openSet_setState_stays_empty d hi he fun hin => henters ⟨hin, by simp [State.openSet, he]⟩
    split
    · exact motionSound_congr (s := { s with guards := s.guards.setState i d }) rfl hset
    · exact hset

/-- R170, R171: with the ram at rest outside a program the kinds of the inputs are free. -/
theorem takeGuardConfig_keeps_motion (entries : List (Option GuardKind))
    (hst : s.motion.stroke = .unhomed ∨ s.motion.stroke = .idle ∨ s.motion.stroke = .faulted) (hs : MotionSound s) :
    MotionSound (takeGuardConfig entries s) := by
  have hfree (g : Guards) : MotionSound { s with guards := g } := by
    refine { hs with guards := fun hmoves => ?_ }
    rcases hst with h | h | h <;> simp [h] at hmoves
  simp only [takeGuardConfig]
  repeat' split
  all_goals exact motionSound_congr (s := { s with guards := _ }) rfl (hfree _)

/-! ## The hold and the rest report (R65, R158) -/

@[simp] theorem driveOf_expireHold (r : Record) (s : State) : driveOf (expireHold r s) = driveOf s := by
  simp only [expireHold]
  split <;> rfl

@[simp] theorem driveOf_announce (r : Record) (s : State) : driveOf (announce r s) = driveOf s := by
  simp only [announce]
  split <;> rfl

/-- R68: without a step in hand the job may go, or come, with no program. -/
theorem motionSound_of_no_run {u : State} (hm : u.motion = s.motion) (hg : u.guards = s.guards) (hu : u.run = none)
    (hh : s.inHand = none) (hs : MotionSound s) : MotionSound u := by
  have hhand : u.inHand = none := by simp [State.inHand, hu]
  refine ⟨?_, ?_, ?_, ?_, by simp [hu], ?_, ?_, ?_⟩
  · rw [hm]; exact hs.speed
  · rw [hm, State.openSet, hg]; exact hs.guards
  · rw [hm]; exact hs.drive
  · rw [hm, hhand, ← hh]; exact hs.hand
  · rw [hm]; exact hs.course
  · rw [hm]; exact hs.follows
  · rw [hm]; exact hs.falls

/-- R65: the rest report ends a job whose program has ended. -/
theorem takeRestReport_keeps_motion (hready : restReady s = true) (hs : MotionSound s) : MotionSound (takeRestReport s) := by
  have hh : s.inHand = none := by
    unfold restReady at hready
    split at hready
    · next r hrun =>
      simp only [Bool.and_eq_true] at hready
      simpa [State.inHand, hrun] using hs.ended r hrun hready.1.1
    · cases hready
  have hdrop : MotionSound (dropJob s) := motionSound_of_no_run (s := s) rfl rfl rfl hh hs
  unfold takeRestReport
  split
  · exact motionSound_congr (driveOf_announce _ _) hdrop
  · exact hdrop

end

end Sys2Proof.Machine
end

section
/-! PROOFS. Every step keeps the invariant of the motion block: requests, frames, the step (R52, R54, R62, R68, R70, R72, R81,
R170, R174, R182). -/

namespace Sys2Proof.Machine

section
variable {s : State}

/-! ## Hand-over (R57, R73): STEP and START -/

/-- R57, R68, R73: a step is handed over with the guards closed, the drive ready and no speed commanded before. -/
theorem handOver_keeps_motion (hst : s.motion.stroke = .paused ∨ s.motion.stroke = .idle) (hopen : s.openSet = [])
    (hended : ∀ r, s.run = some r → r.ended = false) (hs : MotionSound s) : MotionSound (handOver s) := by
  have hneither (st : Stroke) (hp : st ≠ .paused) (hi : st ≠ .idle) : s.motion.stroke ≠ st := by
    rintro rfl
    exact hst.elim hp hi
  have hready : s.motion.driveReady = true := hs.drive (hneither _ nofun nofun) (hneither _ nofun nofun)
  have hphase := hs.driven.phase_none (hneither _ nofun nofun)
  have hc := hs.driven.commanded_zero
    ⟨hneither _ nofun nofun, hneither _ nofun nofun, hneither _ nofun nofun⟩
  have hramp : RampSound 0 s.motion.ramp := hc ▸ hs.driven.ramp
  cases hj : s.job with
  | none => rwa [show handOver s = s by simp [handOver, hj]]
  | some j =>
    cases hr : j.run with
    | none => rwa [show handOver s = s by simp [handOver, hj, hr]]
    | some r =>
      cases hq : j.queue with
      | nil => rwa [show handOver s = s by simp [handOver, hj, hr, hq]]
      | cons rec rest =>
        have hgoes : r.ended = false := hended r (run_of_job hj hr)
        rw [handOver_eq hj hr hq, motionSound_iff]
        refine ⟨⟨fun _ => .inr (.inl rfl), fun _ _ => hready, ?_, ?_, fun h => absurd hphase h, rampSound_command _ hramp⟩,
          fun _ => hopen⟩
        · simp [State.inHand, State.run]
        · simp [State.run, hgoes]

/-- A job that changes with its running part as it was. -/
theorem driveOf_withJob {j : Job} (h : j.run = s.run) : driveOf { s with job := some j } = driveOf s := by
  have hrun : ({ s with job := some j } : State).run = s.run := h
  simp only [driveOf, hrun]
  rfl

/-- R52, R59: an accepted step joins the queue, and in PAUSED is handed over. -/
theorem acceptStep_keeps_motion {j : Job} (rec : StepRecord) (next : Grammar) (hopen : s.openJob = some j) (hs : MotionSound s) :
    MotionSound (acceptStep j rec next s) := by
  obtain ⟨hj, hgoes⟩ := openJob_eq_some.1 hopen
  have hrun : s.run = j.run := by simp [State.run, hj]
  have hjob := motionSound_congr (driveOf_withJob (j := j.accept rec next) hrun.symm) hs
  simp only [acceptStep]
  split
  · next hp =>
    have hpaused : s.motion.stroke = .paused := hp.2
    refine handOver_keeps_motion (.inl hpaused) (hs.guards (by simp [hpaused])) (fun r hr => ?_)
      (motionSound_congr (driveOf_onRun _ fun _ => rfl) hjob)
    rw [onRun_run] at hr
    obtain ⟨q, hq, rfl⟩ := Option.map_eq_some_iff.1 hr
    exact hgoes q hq
  · exact hjob

/-- R52: STEP. -/
theorem serveStep_keeps_motion (l : Link) (tag : Nat) (offer : StepOffer) (last : Nat) (hs : MotionSound s) :
    MotionSound (serveStep l tag offer last s) := by
  have hrefused (st : Status) : MotionSound (s.refuse l tag st) := motionSound_congr (driveOf_refuse ..) hs
  simp only [serveStep]
  split
  · exact hrefused _
  · next j hopen =>
    split
    · exact hrefused _
    · split
      · exact hrefused _
      · split
        · exact hrefused _
        · split
          · exact hrefused _
          · exact motionSound_congr (driveOf_reply ..) (acceptStep_keeps_motion _ _ hopen hs)

/-- R54, check 3: where every check of START passes, the open-guard set is empty. -/
theorem openSet_of_startChecks_none {j : Job} {e : TypeEntry} (h : startChecks s j e = none) : s.openSet = [] := by
  by_contra hne
  rw [startChecks_idle (of_startChecks_none h).1, if_pos hne] at h
  cases h

/-- R55: START opens the press with no step in hand. -/
theorem openPress_keeps_motion {j : Job} (e : TypeEntry) (q : QualEntry) (hst : s.motion.stroke = .idle) (hs : MotionSound s) :
    MotionSound (openPress j e q s) := by
  have hstroke : (openPress j e q s).motion.stroke ≠ .running := by simp [openPress, hst]
  exact { hs with hand := ⟨nofun, fun h => absurd h hstroke⟩, ended := fun r hr => by cases hr; nofun }

/-- R54, R55: START. -/
theorem serveStart_keeps_motion (l : Link) (tag : Nat) (hs : MotionSound s) : MotionSound (serveStart l tag s) := by
  have hrefused (st : Status) : MotionSound (s.refuse l tag st) := motionSound_congr (driveOf_refuse ..) hs
  unfold serveStart
  split
  · exact hrefused _
  · next j hj =>
    split
    · exact hrefused _
    · split
      · exact hrefused _
      · split
        · exact hrefused _
        · exact hrefused _
        · next e _ _ _ q hchecks _ =>
          have hidle := (of_startChecks_none hchecks).1
          exact motionSound_congr (driveOf_reply ..) (handOver_keeps_motion (s := openPress j e q s) (.inr hidle)
            (openSet_of_startChecks_none (s := s) hchecks) (fun r hr => by cases hr; rfl) (openPress_keeps_motion e q hidle hs))

/-! ## The job's other requests (R47, R53, R62) -/

/-- R47: JOB. -/
theorem serveJob_keeps_motion (l : Link) (tag typeId first : Nat) (serial : List Nat) (mode : Nat) (hs : MotionSound s) :
    MotionSound (serveJob l tag typeId first serial mode s) := by
  have hrefused (st : Status) : MotionSound (s.refuse l tag st) := motionSound_congr (driveOf_refuse ..) hs
  unfold serveJob
  split
  · exact hrefused _
  · exact hrefused _
  · next m hj _ =>
    have hrun : s.run = none := by simp [State.run, hj]
    split
    · exact hrefused _
    · split
      · exact hrefused _
      · split
        · exact hrefused _
        · exact motionSound_congr ((driveOf_reply ..).trans (driveOf_withJob hrun.symm)) hs

/-- R53: STEP FLUSH. -/
theorem serveStepFlush_keeps_motion (l : Link) (tag : Nat) (hs : MotionSound s) : MotionSound (serveStepFlush l tag s) := by
  unfold serveStepFlush
  split
  · exact motionSound_congr (driveOf_refuse ..) hs
  · next j hj =>
    split
    · exact motionSound_congr (driveOf_refuse ..) hs
    · have hrun : j.run = s.run := by simp [State.run, hj]
      exact motionSound_congr ((driveOf_reply ..).trans (driveOf_withJob hrun)) hs

/-- R62: STOP's effect on the job. -/
theorem stopJob_keeps_motion (hs : MotionSound s) : MotionSound (stopJob s) := by
  unfold stopJob
  split
  · exact hs
  · next j hj =>
    split
    · next hr => exact motionSound_of_no_run (s := s) rfl rfl rfl (by simp [State.inHand, State.run, hj, hr]) hs
    · split
      · exact hs
      · exact interrupt_keeps_motion _ nofun hs

/-- R62: STOP in a homing finds no program to end. -/
theorem stopJob_homing (hst : s.motion.stroke = .homing) (hs : MotionSound s) : (stopJob s).motion = s.motion := by
  have hh : s.inHand = none := hs.driven.inHand_none (by simp [hst])
  unfold stopJob
  split
  · rfl
  · split
    · rfl
    · split
      · rfl
      · rw [interrupt_idle _ _ hh (by simp [hst])]

/-- R62: STOP. -/
theorem serveStop_keeps_motion (l : Link) (tag : Nat) (hs : MotionSound s) : MotionSound (serveStop l tag s) := by
  refine motionSound_congr (driveOf_reply ..) ?_
  simp only [takeStop]
  split
  · next hst => exact endHoming_sound _ _ (stopJob_keeps_motion hs).driven ((congrArg _ (stopJob_homing hst hs)).trans hst)
  · exact stopJob_keeps_motion hs

/-! ## The requests of the motion block and of the guard unit (R70, R72, R81, R170) -/

/-- R70: where HOME is taken, the drive is ready, the guards are closed and no program runs. -/
theorem of_homeRefusal_none (h : homeRefusal s = none) : Homable s ∧ s.openSet = [] := by
  have hm : Homable s := by
    by_contra hn
    simp [homeRefusal_busy hn] at h
  rw [homeRefusal_homable hm] at h
  exact ⟨hm, by simpa using h⟩

/-- R70: HOME. -/
theorem serveHome_keeps_motion (closed : Bool) (l : Link) (tag : Nat) (hs : MotionSound s) :
    MotionSound (serveHome closed l tag s) := by
  unfold serveHome
  split
  · exact motionSound_congr (driveOf_refuse ..) hs
  · next hnone =>
    obtain ⟨hm, hopen⟩ := of_homeRefusal_none hnone
    refine motionSound_congr (driveOf_reply ..) ((motionSound_iff _).2
      ⟨⟨fun _ => .inl rfl, fun _ _ => hm.ready, ?_, ?_, ?_, rampSound_zero _⟩, fun _ => hopen⟩)
    · simp [State.inHand, Motion.home, show (s.onMotion (Motion.home closed)).run = none from hm.run]
    · simp [show (s.onMotion (Motion.home closed)).run = none from hm.run]
    · cases closed <;> simp [Motion.home]

/-- R72: where RETRACT is taken, the guards are closed. -/
theorem openSet_of_retractRefusal_none (h : retractRefusal s = none) : s.openSet = [] := by
  unfold retractRefusal at h
  split at h
  · cases h
  · split at h
    · cases h
    · split at h
      · cases h
      · next hopen => exact not_not.1 hopen

/-- R72: RETRACT. -/
theorem serveRetract_keeps_motion (l : Link) (tag : Nat) (hs : MotionSound s) : MotionSound (serveRetract l tag s) := by
  unfold serveRetract
  split
  · exact motionSound_congr (driveOf_refuse ..) hs
  · next hnone =>
    have hst := stroke_of_retractRefusal_none hnone
    split
    · exact motionSound_congr (driveOf_reply ..) hs
    · exact motionSound_congr (driveOf_reply ..) ((motionSound_iff _).2 ⟨driven_of_no_hand nofun
        (hs.driven.inHand_none (by simp [hst])) (hs.driven.phase_none (by simp [hst])) (fun _ => .inr (.inr rfl))
        (fun _ _ => hs.drive (by simp [hst]) (by simp [hst])) (rampSound_zero _),
        fun _ => openSet_of_retractRefusal_none (s := s) hnone⟩)

/-- R81: CLEAR FAULT. -/
theorem serveClearFault_keeps_motion (l : Link) (tag : Nat) (hs : MotionSound s) : MotionSound (serveClearFault l tag s) := by
  unfold serveClearFault
  split
  · next h =>
    have hc := hs.driven.commanded_zero (by simp [h.1])
    exact motionSound_congr (driveOf_reply ..) (motionSound_of_still (by simp [Stroke.guarded]) hc
      (hs.driven.phase_none (by simp [h.1])) (fun hu => absurd rfl hu) (hs.driven.inHand_none (by simp [h.1]))
      (hc ▸ hs.driven.ramp))
  · exact motionSound_congr (driveOf_refuse ..) hs

/-- R170: GUARD CONFIG. -/
theorem serveGuardConfig_keeps_motion (l : Link) (tag : Nat) (codes : List Nat) (hs : MotionSound s) :
    MotionSound (serveGuardConfig l tag codes s) := by
  simp only [serveGuardConfig]
  split
  · exact motionSound_congr (driveOf_refuse ..) hs
  · split
    · exact motionSound_congr (driveOf_reply ..) hs
    · split
      · next hst => exact motionSound_congr (driveOf_reply ..) (takeGuardConfig_keeps_motion _ hst.1 hs)
      · exact motionSound_congr (driveOf_refuse ..) hs

/-! ## Requests of other blocks, and resets -/

/-- R43: RETRAIN. -/
theorem serveRetrain_keeps_motion (l : Link) (tag : Nat) (hs : MotionSound s) : MotionSound (serveRetrain l tag s) := by
  unfold serveRetrain
  split
  · exact motionSound_congr (driveOf_refuse ..) hs
  · split
    · exact motionSound_congr (driveOf_refuse ..) hs
    · exact motionSound_congr (driveOf_reply ..) (beginTraining_keeps_motion 1 (motionSound_congr (s := s) rfl hs))

/-- R86, R182: RESTART leaves the drive's lines and the counts alone, of which UNHOMED asks nothing. -/
theorem serveRestart_keeps_motion (l : Link) (tag : Nat) (hs : MotionSound s) : MotionSound (serveRestart l tag s) := by
  unfold serveRestart
  split
  · exact motionSound_congr (driveOf_refuse ..) hs
  · exact motionSound_of_still (by simp [resetBlocks, Motion.restart, Motion.reset, Stroke.guarded]) rfl rfl
      (fun hu => absurd rfl hu) rfl (rampSound_zero 0)

@[simp] theorem driveOf_serveTare (l : Link) (tag : Nat) (s : State) : driveOf (serveTare l tag s) = driveOf s := by
  unfold serveTare
  split
  · simp
  · split
    · simp
    · split
      · rfl
      · simp

@[simp] theorem driveOf_serveQualify (l : Link) (tag typeId headKind level interval : Nat) (s : State) :
    driveOf (serveQualify l tag typeId headKind level interval s) = driveOf s := by
  unfold serveQualify qualifyAs
  repeat' split
  all_goals exact driveOf_reply ..

/-- Every request keeps the invariant; those that read, and those of the catalogue, the store and the hold, end each of their
checks in an answer. -/
theorem serve_keeps_motion (closed : Bool) (r : Request) (l : Link) (tag : Nat) (hs : MotionSound s) :
    MotionSound (serve closed r l tag s) := by
  cases r with
  | restart => exact serveRestart_keeps_motion l tag hs
  | retrain => exact serveRetrain_keeps_motion l tag hs
  | job t f n m => exact serveJob_keeps_motion l tag t f n m hs
  | step o last => exact serveStep_keeps_motion l tag o last hs
  | stepFlush => exact serveStepFlush_keeps_motion l tag hs
  | start => exact serveStart_keeps_motion l tag hs
  | stop => exact serveStop_keeps_motion l tag hs
  | home => exact serveHome_keeps_motion closed l tag hs
  | retract => exact serveRetract_keeps_motion l tag hs
  | clearFault => exact serveClearFault_keeps_motion l tag hs
  | guardConfig es => exact serveGuardConfig_keeps_motion l tag es hs
  | tare => exact motionSound_congr (driveOf_serveTare ..) hs
  | qualify t k v n => exact motionSound_congr (driveOf_serveQualify ..) hs
  | mask op k =>
    refine motionSound_congr (s := s) ?_ hs
    simp only [serve, serveMask]
    repeat' split
    all_goals simp
  | _ =>
    refine motionSound_congr (s := s) ?_ hs
    simp only [serve, serveIdent, serveState, serveHeadMap, serveClassPut, serveClassDrop, serveClassGet, serveCataloguePut,
      serveCatalogueDrop, serveCatalogueGet, serveProfileRead, serveResultSummary, serveResultColumn, serveResultPins,
      serveResultRelease, serveQualifyGet, serveDispose, serveHoldTime]
    repeat' split
    all_goals exact driveOf_reply ..

theorem takeRequest_keeps_motion (l : Link) (tag code : Nat) (body : Option Request) (closed : Bool) (hs : MotionSound s) :
    MotionSound (takeRequest l tag code body s closed) := by
  have hrx : MotionSound (s.setRx l .hunting) := motionSound_congr (driveOf_setRx ..) hs
  have hrefused (st : Status) : MotionSound ((s.setRx l .hunting).refuse l tag st) := motionSound_congr (driveOf_refuse ..) hrx
  simp only [takeRequest]
  split
  · exact hrx
  · split
    · exact hrefused _
    · split
      · exact hrefused _
      · split
        · exact hrefused _
        · exact serve_keeps_motion closed _ l tag hrx

theorem receiveByte_keeps_motion (l : Link) (b : Byte) (closed : Bool) (hs : MotionSound s) :
    MotionSound (receiveByte l b closed s) := by
  have hrx (rx : Receiver) : MotionSound (s.setRx l rx) := motionSound_congr (driveOf_setRx ..) hs
  simp only [receiveByte]
  split
  · split
    · exact hrx _
    · exact hs
  · split
    · exact hrx _
    · split
      · exact hrx _
      · simp only [takeFrame]
        split
        · split
          · exact takeRequest_keeps_motion l _ _ _ closed hs
          · exact hrx _
        · exact hrx _

end

/-! ## The step -/

/-- A command's next state is sound in its motion block. -/
def LeavesMotion (o : Host.Outcome State Fault Refusal) : Prop := ∃ u, o = done u ∧ MotionSound u

section
variable {s u v : State}

theorem leavesMotion_done (h : MotionSound u) : LeavesMotion (done u) := ⟨u, rfl, h⟩

/-- An event that leaves what the invariant reads. -/
theorem leavesMotion_same (hs : MotionSound s) (h : driveOf u = driveOf s) : LeavesMotion (done u) :=
  leavesMotion_done (motionSound_congr h hs)

/-- An event that is taken under a condition. -/
theorem leavesMotion_ite {c : Prop} [Decidable c] (hu : c → MotionSound u) (hv : MotionSound v) :
    LeavesMotion (if c then done u else done v) := by
  split
  · next h => exact leavesMotion_done (hu h)
  · exact leavesMotion_done hv

/-- An event that leaves what the invariant reads, taken or not. -/
theorem leavesMotion_ite_same {c : Prop} [Decidable c] (hs : MotionSound s) (h : driveOf u = driveOf s) :
    LeavesMotion (if c then done u else done s) := leavesMotion_ite (fun _ => motionSound_congr h hs) hs

theorem execHandoverEnd_leaves_motion (enc : Int) (hs : MotionSound s) : LeavesMotion (execHandoverEnd s enc) := by
  have hlatch := motionSound_latch enc hs
  simp only [execHandoverEnd]
  split
  · exact leavesMotion_ite (fun _ => endStep_keeps_motion _ _ (handOverCause_ne_driveFault _) hlatch) hlatch
  · exact leavesMotion_done hlatch

theorem execUnderrunTimeout_leaves_motion (enc : Int) (hs : MotionSound s) : LeavesMotion (execUnderrunTimeout s enc) := by
  have hlatch := motionSound_latch enc hs
  refine leavesMotion_ite (fun h => ?_) hlatch
  simp only [State.underrunRuns, Bool.and_eq_true, decide_eq_true_eq] at h
  exact endPaused_sound _ nofun hlatch.driven h.1

theorem execHomingComplete_leaves_motion (hs : MotionSound s) : LeavesMotion (execHomingComplete s) := by
  unfold execHomingComplete
  split
  · next hdone => exact leavesMotion_ite (fun _ => homed_keeps_motion hdone hs) hs
  · exact leavesMotion_done hs

theorem execTareComplete_leaves_motion (hs : MotionSound s) : LeavesMotion (execTareComplete s) := by
  unfold execTareComplete
  split
  · exact leavesMotion_ite_same hs (driveOf_reply ..)
  · exact leavesMotion_done hs

theorem execHoldOverdue_leaves_motion (hs : MotionSound s) : LeavesMotion (execHoldOverdue s) := by
  unfold execHoldOverdue
  split
  · exact leavesMotion_same hs (driveOf_expireHold _ s)
  · exact leavesMotion_done hs

theorem execUnknownRequest_leaves_motion (h : Header) (code : Nat) (hs : MotionSound s) :
    LeavesMotion (execUnknownRequest h code s) := by
  unfold execUnknownRequest
  split
  · exact leavesMotion_done hs
  · exact leavesMotion_done (takeRequest_keeps_motion _ _ _ _ _ hs)

theorem execHeadDetach_leaves_motion (enc : Int) (hs : MotionSound s) : LeavesMotion (execHeadDetach s enc) := by
  have hlatch := motionSound_latch enc hs
  simp only [execHeadDetach]
  split
  · exact leavesMotion_done hlatch
  · exact leavesMotion_done (detach_keeps_motion hlatch)

/-- A command that carries no request keeps the invariant. -/
theorem event_leaves_motion {i : Instr} (hi : i.request? = none) (hs : MotionSound s) : LeavesMotion (exec i s) := by
  have hlatch (enc : Int) : MotionSound (s.latch enc) := motionSound_latch enc hs
  cases i with
  | powerOn => exact leavesMotion_done (motionSound_congr (s := State.reset) rfl motionSound_reset)
  | unknownRequest h code => exact execUnknownRequest_leaves_motion h code hs
  | frameByteReceived l b closed => exact leavesMotion_done (receiveByte_keeps_motion l b closed hs)
  | frameDiscard l => exact leavesMotion_same hs (driveOf_setRx ..)
  | interByteTimeout l => exact leavesMotion_same hs (driveOf_setRx ..)
  | transmitFrameEnd l => exact leavesMotion_same hs (driveOf_onLink ..)
  | handoverEnd enc => exact execHandoverEnd_leaves_motion enc hs
  | underrunTimeout enc => exact execUnderrunTimeout_leaves_motion enc hs
  | restReport => exact leavesMotion_ite (fun h => takeRestReport_keeps_motion h hs) hs
  | holdOverdue => exact execHoldOverdue_leaves_motion hs
  | homeSwitchClosed => exact leavesMotion_ite (fun h => homeSwitch_keeps_motion h.1 hs) hs
  | homingRest enc => exact leavesMotion_ite (fun h => homingRest_keeps_motion enc h.2 hs) hs
  | homingComplete => exact execHomingComplete_leaves_motion hs
  | homingTimeout => exact leavesMotion_ite (fun h => endHoming_sound _ _ hs.driven h.1) hs
  | ramSample raw enc => exact leavesMotion_done (takeRamSample_keeps_motion raw enc hs)
  | frameInstant enc frames => exact leavesMotion_ite (fun _ => takeFrameInstant_keeps_motion enc frames hs) hs
  | automaticRetrain enc => exact leavesMotion_ite (fun _ => beginTraining_keeps_motion _ (hlatch enc)) (hlatch enc)
  | headAttach => exact leavesMotion_ite (fun _ => beginTraining_keeps_motion 1 hs) hs
  | headDetach enc => exact execHeadDetach_leaves_motion enc hs
  | trainingAttemptSuccess => exact leavesMotion_ite_same hs (driveOf_trainingSuccess s)
  | trainingAttemptTimeout passed => exact leavesMotion_ite_same hs (driveOf_trainingTimeout passed s)
  | descriptorAnswer kind o => exact leavesMotion_ite_same hs (driveOf_descriptorAnswered kind o s)
  | descriptorTimeout => exact leavesMotion_ite_same hs rfl
  | rollCallAnswer serial position kind => exact leavesMotion_ite_same hs rfl
  | rollCallClose => exact leavesMotion_ite_same hs rfl
  | tareComplete => exact execTareComplete_leaves_motion hs
  | moveReached enc => exact leavesMotion_done (takeMoveReached_keeps_motion (hlatch enc))
  | probeLimitArrival enc => exact leavesMotion_done (takeProbeArrival_keeps_motion (hlatch enc))
  | dwellElapsed enc => exact leavesMotion_ite (fun _ => endStep_keeps_motion _ _ nofun (hlatch enc)) (hlatch enc)
  | stall enc => exact leavesMotion_done (takeStall_keeps_motion (hlatch enc))
  | travelLimit enc => exact leavesMotion_done (takeTravelLimit_keeps_motion (hlatch enc))
  | stopAtRest enc =>
    exact leavesMotion_ite (fun h => takeFollowOn_sound (motionSound_rampZero (hlatch enc)) h) (hlatch enc)
  | retractReached enc =>
    exact leavesMotion_ite (fun h => takeRetractReached_keeps_motion h (hlatch enc)) (hlatch enc)
  | driveReadyLost enc => exact leavesMotion_ite (fun _ => readyLost_keeps_motion (hlatch enc)) (hlatch enc)
  | driveFaultInput enc =>
    exact leavesMotion_done (driveFault_sound _ fun _ => motionSound_congr (s := s.latch enc) rfl (hlatch enc))
  | stopTimeout enc => exact leavesMotion_ite (fun _ => driveFault_sound _ fun _ => hlatch enc) (hlatch enc)
  | driveReadyPresent => exact leavesMotion_done (readyPresent_keeps_motion hs)
  | faultInputInactive => exact leavesMotion_same hs rfl
  | rampOutputZero => exact leavesMotion_ite (fun _ => motionSound_rampZero hs) hs
  | guardInputChange input nowOpen enc =>
    exact leavesMotion_ite (fun h => takeGuardChange_keeps_motion _ ((between_iff 1 8 input).1 h).1 (hlatch enc)) (hlatch enc)
  | _ => simp [Instr.request?] at hi

/-- Every command keeps the invariant. -/
theorem exec_leaves_motion (i : Instr) (hs : MotionSound s) : LeavesMotion (exec i s) := by
  cases hi : i.request? with
  | none => exact event_leaves_motion hi hs
  | some p =>
    rw [exec_of_request hi]
    exact leavesMotion_done (takeRequest_keeps_motion _ _ _ _ _ hs)

/-- R68: every step keeps the invariant of the motion block. -/
theorem step_keeps_motion {t : State} (ht : step s = .next t) (hs : MotionSound s) : MotionSound t := by
  unfold step at ht
  split at ht
  · cases ht
    exact hs
  · next c rest _ =>
    obtain ⟨u, hu, hsound⟩ := exec_leaves_motion c (s := { s with pending := rest }) (motionSound_congr (s := s) rfl hs)
    rw [hu] at ht
    cases ht
    exact motionSound_congr (s := u) rfl hsound

/-- R67, R68, R168: where a speed is commanded, the drive is enabled. -/
theorem enable_of_commanded (hs : MotionSound s) (hc : s.motion.commanded ≠ 0) : s.openSet = [] ∧ s.enable = true := by
  have hmoves := hs.speed hc
  have hopen : s.openSet = [] := hs.guards (by tauto)
  have hheld : s.guards.estopHold = false := by simp [Guards.estopHold, show s.guards.openSet = [] from hopen]
  refine ⟨hopen, ?_⟩
  rcases hmoves with h | h | h <;> simp [State.enable, Motion.enableByState, h, hheld]

/-- R68: with no speed commanded, a ramp output that is not zero is falling. -/
theorem ramp_falls_of_still (hs : MotionSound s) (hc : s.motion.commanded = 0) (ho : s.motion.ramp.output ≠ 0) :
    s.motion.ramp = .falling 2000 s.motion.ramp.output ∨ s.motion.ramp = .falling 20000 s.motion.ramp.output := by
  cases hr : s.motion.ramp with
  | following v =>
    have hv := hs.follows v hr
    rw [hr] at ho
    exact absurd (show v = 0 by omega) ho
  | falling rate v =>
    obtain ⟨_, rfl | rfl⟩ := hs.falls rate v hr
    · exact .inl rfl
    · exact .inr rfl

end

/-- Settles O45: every command keeps the invariant of the motion block; what is commanded, enabled and falling is read off it. -/
theorem motionOnlyWhenPermitted : Obligations.MotionOnlyWhenPermitted := by
  refine ⟨fun s t hs ht => step_keeps_motion ht hs, fun s hs hc => ?_, fun s hs hc ho => ramp_falls_of_still hs hc ho⟩
  have hmoves := hs.speed hc
  obtain ⟨hopen, henable⟩ := enable_of_commanded hs hc
  exact ⟨hmoves, hopen, hs.drive (by rintro h; simp [h] at hmoves) (by rintro h; simp [h] at hmoves), henable⟩

end Sys2Proof.Machine
end

section
/-! PROOFS. RETRACT, CLEAR FAULT, and the ram coming to rest (R67 to R69, R72, R73, R78, R81 to R84). -/

namespace Sys2Proof.Machine

section
variable {s : State} {h : Header}

/-! ## RETRACT (R72) -/

/-- R72: the check of RETRACT on the stroke state. -/
theorem retractRefusal_notHomed (hst : s.motion.stroke = .unhomed ∨ s.motion.stroke = .faulted) :
    retractRefusal s = some .notHomed := if_pos hst

/-- R72: the checks of RETRACT once a homing has given the ram a position. -/
theorem retractRefusal_homed (hu : s.motion.stroke ≠ .unhomed) (hf : s.motion.stroke ≠ .faulted) : retractRefusal s =
    if ¬ (s.motion.stroke = .idle ∧ s.motion.ramp.output = 0) then some .busy
    else if s.openSet ≠ [] then some .guardOpen else none := if_neg (by simp [hu, hf])

/-- R72: the last check of RETRACT, at rest in IDLE. -/
theorem retractRefusal_still (hst : s.motion.stroke = .idle ∧ s.motion.ramp.output = 0) :
    retractRefusal s = if s.openSet ≠ [] then some .guardOpen else none := by
  rw [retractRefusal_homed (by simp [hst.1]) (by simp [hst.1]), if_neg (not_not_intro hst)]

@[simp] theorem heard_retractRefusal (h : Header) (s : State) : retractRefusal (heard h s) = retractRefusal s := by
  unfold heard
  cases h.link <;> rfl

/-- R67: position 0 is where the encoder's count is that of the rest point. -/
theorem position_eq_zero_iff (m : Motion) : m.position = 0 ↔ m.enc = m.zero := by
  unfold Motion.position
  omega

/-- R72: RETRACT refused. -/
theorem exec_retract_refused {st : Status} (ha : admitted h .retract s = true) (hc : retractRefusal s = some st) :
    exec (.retract h) s = refusedWith h st s := by
  have hexec : exec (.retract h) s = done (serveRetract h.link h.tag (heard h s)) := exec_of_admitted rfl ha
  rw [hexec, serveRetract, heard_retractRefusal, hc]
  rfl

/-- R72: RETRACT taken. -/
theorem exec_retract_taken (ha : admitted h .retract s = true) (hc : retractRefusal s = none) :
    exec (.retract h) s = if s.motion.enc = s.motion.zero then answered h .ok [] (heard h s)
      else answered h .ok [] { heard h s with motion := s.motion.retract } := by
  have hexec : exec (.retract h) s = done (serveRetract h.link h.tag (heard h s)) := exec_of_admitted rfl ha
  simp only [hexec, serveRetract, heard_retractRefusal, hc, heard_motion, position_eq_zero_iff]
  rw [← heard_motion h s, apply_ite done]
  rfl

/-! ## CLEAR FAULT (R81) -/

theorem exec_clearFault (ha : admitted h .clearFault s = true) : exec (.clearFault h) s =
    if s.motion.stroke = .faulted ∧ s.motion.driveReady = true ∧ s.motion.faultInput = false then
      answered h .ok [] { heard h s with motion := { s.motion with stroke := .unhomed } }
    else refusedWith h .busy s := by
  have hexec : exec (.clearFault h) s = done (serveClearFault h.link h.tag (heard h s)) := exec_of_admitted rfl ha
  simp only [hexec, serveClearFault, heard_motion, Bool.not_eq_true]
  rw [← heard_motion h s, apply_ite done]
  rfl

/-- R174: the line link may send neither of the two. -/
theorem exec_forbidden_on_line {i : Instr} {r : Request} (hi : i.request? = some (h, r)) (hl : h.link = .line)
    (hp : permitted .line (requestCode r) = false) (hroom : s.line.replies.length < 8) :
    exec i s = refusedWith h .notPermitted s := by
  have hline : (s.link h.link).replies.length < 8 := by rw [hl]; exact hroom
  rw [exec_of_request hi, request_of_forbidden _ hline (by rw [hl]; exact hp)]
  rfl

/-! ## The ends of a retract (R72, R78, R82, R84) -/

section
variable (enc : Int) (hst : s.motion.stroke = .retracting)

include hst

/-- R84: RETRACT_REACHED in a retract. -/
theorem exec_retractReached : exec (.retractReached enc) s = done (if (enc - s.motion.zero).natAbs ≤ 3 then
      markRest { latched enc s with motion := { s.motion with enc := enc, stroke := .idle, commanded := 0, ramp := .zero } }
    else latched enc s) := by
  have hexec : exec (.retractReached enc) s = done (takeRetractReached (latched enc s)) := if_pos hst
  simp only [hexec, takeRetractReached, arrived_iff, latched_position, sub_zero]
  rfl

/-- R78, R82: STALL of commanded motion in a retract. -/
theorem exec_stall_retracting (hc : s.motion.commanded ≠ 0) : exec (.stall enc) s = .next (State.arbiters { latched enc s with
    motion := { s.motion with
      enc := enc, stroke := .stopping, commanded := 0, phase := .none, ramp := slowRamp 2000 s.motion.ramp
      stop := some {
        cause := .cause .stall, rate := rateInForce 2000 s.motion.ramp, dropped := false, follow := .idle } } }) := by
  have hst' : (latched enc s).motion.stroke = .retracting := hst
  have hc' : (latched enc s).motion.commanded ≠ 0 := hc
  simp only [exec, execStall, latch_eq, takeStall, if_neg hc', hst', beginStop, rateOr_slowRamp]
  rfl

end

/-- R78: STALL with no speed commanded. -/
theorem exec_stall_still (enc : Int) (hc : s.motion.commanded = 0) : exec (.stall enc) s = .next (latched enc s).arbiters :=
  congrArg done (if_pos hc : takeStall (latched enc s) = latched enc s)

end

/-- Settles O41: RETRACT check by check, the two ends of a retract, and CLEAR FAULT. -/
theorem retractBringsTheRamHome : Obligations.RetractBringsTheRamHome := by
  refine fun h enc s => ⟨fun ha => ?_, fun hst => ⟨fun hfar => ?_, fun hnear => ?_, exec_stall_retracting enc hst,
    exec_stall_still enc⟩, fun ha => ⟨fun hmay => ⟨?_, rfl⟩, fun hnot => ?_⟩, fun hl hroom => ⟨?_, ?_⟩⟩
  · refine ⟨fun hst => exec_retract_refused ha (retractRefusal_notHomed hst), fun hu hf hmoves => ?_, fun hstill hopen => ?_,
      fun hstill hclosed hzero => ?_, fun hstill hclosed hzero => ?_⟩
    · exact exec_retract_refused ha ((retractRefusal_homed hu hf).trans (if_pos hmoves))
    · exact exec_retract_refused ha ((retractRefusal_still hstill).trans (if_pos hopen))
    · rw [exec_retract_taken ha ((retractRefusal_still hstill).trans (if_neg (not_not_intro hclosed))), if_pos hzero]
    · rw [exec_retract_taken ha ((retractRefusal_still hstill).trans (if_neg (not_not_intro hclosed))), if_neg hzero]
      rfl
  · rw [exec_retractReached enc hst, if_neg (Nat.not_le.2 hfar)]; rfl
  · rw [exec_retractReached enc hst, if_pos hnear]; rfl
  · rw [exec_clearFault ha, if_pos hmay]
  · rw [exec_clearFault ha, if_neg hnot]
  · exact exec_forbidden_on_line rfl hl rfl hroom
  · exact exec_forbidden_on_line rfl hl rfl hroom

/-! ## Rest in STOPPING, and the end of a falling ramp (R68, R69, R73, R83, R84) -/

/-- R83: STOP_AT_REST in STOPPING. -/
theorem exec_stopAtRest {s : State} (enc : Int) (hst : s.motion.stroke = .stopping) :
    exec (.stopAtRest enc) s = done (takeFollowOn (s.rest enc)) := if_pos hst

section
variable {s : State} {rec : StopRecord} (hstop : s.motion.stop = some rec)

include hstop

/-- R71, R83: the follow-on of a homing's end. -/
theorem takeFollowOn_unhomed (hf : rec.follow = .unhomed) : takeFollowOn s =
    { s with motion := { s.motion with stroke := .unhomed, referenced := false, stop := none } } := by
  simp only [takeFollowOn, hstop, hf]

/-- R83, R84: the ram stays where it is, and the rest report is made. -/
theorem takeFollowOn_stays
    (hf : rec.follow = .idle ∨ rec.follow = .retract ∧ ¬ (s.openSet = [] ∧ s.motion.position ≠ 0)) :
    takeFollowOn s = markRest { s with motion := { s.motion with stroke := .idle, stop := none } } := by
  rcases hf with hf | ⟨hf, hn⟩
  · simp only [takeFollowOn, hstop, hf]
  · simp only [takeFollowOn, hstop, hf, if_neg hn]

/-- R84: a retract follows. -/
theorem takeFollowOn_retracts (hf : rec.follow = .retract) (hopen : s.openSet = []) (hp : s.motion.position ≠ 0) :
    takeFollowOn s =
      { s with motion := { s.motion with stroke := .retracting, stop := none, commanded := -Config.retractSpeed } } := by
  simp only [takeFollowOn, hstop, hf, hopen, ne_eq, hp, not_false_eq_true, and_self, if_true]

end

/-- Settles O42, by the follow-on of the stop record; a falling ramp reaches zero by its event. -/
theorem restTakesTheFollowOn : Obligations.RestTakesTheFollowOn := by
  refine ⟨fun enc rec s hst hstop => ?_, fun rate v s hramp hst => ?_⟩
  · intro m rested
    rw [exec_stopAtRest enc hst]
    have hstop' : (s.rest enc).motion.stop = some rec := hstop
    have hzero : (s.rest enc).motion.position = 0 ↔ enc = s.motion.zero := position_eq_zero_iff (s.rest enc).motion
    refine ⟨fun hf => ?_, fun hf => ?_, fun hf hopen hp => ?_⟩
    · rw [takeFollowOn_unhomed hstop' hf]; rfl
    · rw [takeFollowOn_stays hstop' (hf.imp_right fun ⟨hf, hstays⟩ => ⟨hf, fun ⟨hopen, hp⟩ => ?_⟩)]
      · rfl
      · exact hstays.elim (· hopen) (fun h => hp (hzero.2 h))
    · rw [takeFollowOn_retracts hstop' hf hopen (mt hzero.1 hp)]; rfl
  · have hfalls : s.motion.ramp.isFalling = true := by rw [hramp]; rfl
    exact if_pos ⟨hfalls, hst⟩

end Sys2Proof.Machine
end

section
/-! PROOFS. The ram sample by the step in hand (R68, R71, R74, R75, R84, R85, R87, R89, R95). -/

namespace Sys2Proof.Machine

section
variable {s : State}

/-! ## Where the ram is to come to rest (R72, R74, R75, R84) -/

theorem aim_retracting (hst : s.motion.stroke = .retracting) : s.aim = some 0 := by simp only [State.aim, hst]

/-- R74, R75: the step in hand has the ram come to rest at its target or its limit position. -/
theorem aim_running {h : InHand} (hst : s.motion.stroke = .running) (hh : s.inHand = some h) :
    s.aim = aimOf h.record.body := by
  simp only [State.aim, hst, hh, Option.bind_some]

theorem aim_elsewhere (hr : s.motion.stroke ≠ .retracting) (hn : s.motion.stroke ≠ .running) : s.aim = none := by
  unfold State.aim
  split
  case h_1 hst => exact absurd hst hn
  case h_2 hst => exact absurd hst hr
  all_goals rfl

/-! ## What a ram sample leaves of the step in hand and of the open record -/

/-- R85: a ram sample leaves the record of the step in hand. -/
theorem ramSampled_inHand (raw enc : Int) (s : State) : (ramSampled raw enc s).inHand = s.inHand.map (fun h => { h with
    travelled := h.travelled + (enc - s.motion.enc).natAbs, peak := max h.peak (ramForce s.motion.ramOffset raw) }) := by
  cases hj : s.job with
  | none => simp [State.inHand, State.run, ramSampled, hj]
  | some j => cases hr : j.run <;> simp [State.inHand, State.run, ramSampled, hj, hr]

/-- R89: a ram sample leaves the touch threshold of the open record. -/
theorem ramSampled_touchThreshold (raw enc : Int) (s : State) :
    touchThreshold (ramSampled raw enc s) = touchThreshold s := by
  by_cases hrun : s.run = none
  · simp [touchThreshold, ramSampled, hrun]
  · let raised (q : Record) : Record :=
      if q.state = .opened then { q with peak := max q.peak (ramForce s.motion.ramOffset raw) } else q
    have hstate (q : Record) : (raised q).state = q.state := by simp only [raised]; split <;> rfl
    have htouch (q : Record) : (raised q).copy = q.copy := by simp only [raised]; split <;> rfl
    have hrecords : (ramSampled raw enc s).store.records = s.store.records.map raised := by simp [ramSampled, hrun, raised]
    simp only [touchThreshold, hrecords, List.find?_map, Option.map_map, Function.comp_def, hstate, htouch]

/-! ## Touch detection armed by a PROBE (R89) -/

/-- R89: a PROBE in hand arms touch detection. -/
theorem armed_of_probe {h : InHand} (hh : s.inHand = some h) (hk : bodyKind h.record.body = .probe) :
    ∃ a b, armed s = some (a, b) := by
  cases hb : h.record.body with
  | probe l v a b => exact ⟨a, b, by simp only [armed, hh, hb]⟩
  | _ => simp [hb, bodyKind] at hk

/-- R89: without a PROBE in hand touch detection is not armed. -/
theorem armed_of_no_probe (hn : ∀ h, s.inHand = some h → bodyKind h.record.body ≠ .probe) : armed s = none := by
  cases hh : s.inHand with
  | none => simp only [armed, hh]
  | some h =>
    cases hb : h.record.body with
    | probe l v a b => exact absurd (by rw [hb]; rfl) (hn h hh)
    | _ => simp only [armed, hh, hb]

/-- R95, R109: outside PRESSING a sample that no PROBE awaits is binned, and no more. -/
theorem useRamSample_unarmed (position : Int) (value : Nat) (suspect : Bool) (ha : armed s = none)
    (hp : s.monitor.phase ≠ .pressing) : useRamSample position value suspect s =
      { s with profile := if s.profile.binning then (s.profile.binRam position value suspect).1 else s.profile } := by
  simp only [useRamSample, ha, if_neg hp]
  cases s.profile.binning <;> rfl

/-- R89: a sample below the touch threshold is no touch. -/
theorem useRamSample_below {a b value : Nat} (position : Int) (suspect : Bool) (ha : armed s = some (a, b))
    (hv : value < touchThreshold s) : useRamSample position value suspect s = s := by
  simp only [useRamSample, ha, if_neg (Nat.not_le.2 hv)]

/-- R87: RAM_SAMPLE with no job RUNNING. -/
theorem exec_ramSample_idle (raw enc : Int) (hr : s.run = none) :
    exec (.ramSample raw enc) s = .next (ramSampled raw enc s).arbiters :=
  congrArg done ((takeRamSample_eq raw enc s).trans (if_pos hr))

/-- R87: RAM_SAMPLE with a job RUNNING. -/
theorem exec_ramSample_running (raw enc : Int) (hr : s.run ≠ none) : exec (.ramSample raw enc) s = done
    (useRamSample (enc - s.motion.zero) (ramForce s.motion.ramOffset raw) (decide (60000 ≤ raw - s.motion.ramOffset))
      (ramSampled raw enc s)) :=
  congrArg done ((takeRamSample_eq raw enc s).trans (if_neg hr))

end

/-- Settles O46: the sample is taken; with a job RUNNING it is then used as the step in hand and the monitor's phase say. -/
theorem ramSamplesAreTaken : Obligations.RamSamplesAreTaken := by
  intro raw enc s value taken probing
  refine ⟨aim_retracting, fun h hst hh => ?_, aim_elsewhere, exec_ramSample_idle raw enc, fun hr hn hp => ?_,
    fun rec ⟨h, hh, hk⟩ _ hrec hv => ?_⟩
  · rw [aim_running hst hh]
    cases h.record.body <;> rfl
  · have ha : armed taken = none := armed_of_no_probe fun h' hh' hk => by
      rw [ramSampled_inHand] at hh'
      obtain ⟨h, hh, rfl⟩ := Option.map_eq_some_iff.1 hh'
      exact hn ⟨h, hh, hk⟩
    rw [exec_ramSample_running raw enc hr, useRamSample_unarmed _ _ _ ha hp]
    rfl
  · have hr : s.run ≠ none := fun hr => by simp [State.inHand, hr] at hh
    have hh' := ramSampled_inHand raw enc s
    rw [hh] at hh'
    obtain ⟨a, b, ha⟩ := armed_of_probe hh' hk
    have hthreshold : touchThreshold s = rec.copy.entry.touch := by rw [touchThreshold, hrec]; rfl
    have hbelow : value < touchThreshold taken := by
      rwa [ramSampled_touchThreshold, hthreshold]
    rw [exec_ramSample_running raw enc hr, useRamSample_below _ _ ha hbelow]
    rfl

end Sys2Proof.Machine
end

section
/-! PROOFS. A guard's change: the open-guard set, its marks and notices, the retract or stop it acts on, drive enable (R67, R163 to
R169). -/

namespace Sys2Proof.Machine

section
variable {s : State} {i : Nat}

/-! ## The change of one input (R163, R165, R166) -/

/-- R163: GUARD_INPUT_CHANGE of one of the eight inputs. -/
theorem exec_guardInputChange (nowOpen : Bool) (enc : Int) (hi : 1 ≤ i) (h8 : i ≤ 8) :
    exec (.guardInputChange i nowOpen enc) s = done (takeGuardChange i (if nowOpen then .opened else .closed) (latched enc s)) :=
  if_pos ((between_iff 1 8 i).2 ⟨hi, h8⟩)

/-- R165, R166: a change by which no input enters the set, and which does not empty it, is the state alone. -/
theorem takeGuardChange_quiet {d : Debounced} (henters : i ∈ (s.guards.setState i d).openSet → i ∈ s.openSet)
    (hempties : (s.guards.setState i d).openSet = [] → s.openSet = []) :
    takeGuardChange i d s = { s with guards := s.guards.setState i d } := by
  simp only [takeGuardChange]
  rw [if_neg fun h => h.2 (henters h.1), if_neg fun h => h.1 (hempties h.2)]

section
variable (hi : 1 ≤ i) (h8 : i ≤ 8) (hl : s.guards.states.length = 8)

include hi h8 hl

/-- R165: an input in the set already, or ABSENT, enters nothing as it opens. -/
theorem takeGuardChange_stays (h : i ∈ s.openSet ∨ s.guards.kind i = .absent) :
    takeGuardChange i .opened s = { s with guards := s.guards.setState i .opened } := by
  have hmem := mem_openSet_opened hi h8 hl
  refine takeGuardChange_quiet (fun hin => ?_) fun hempty => ?_
  · rcases (hmem i).1 hin with hin | ⟨_, hk⟩
    · exact hin
    · exact h.resolve_right hk
  · refine List.eq_nil_iff_forall_not_mem.2 fun x hx => ?_
    have : x ∈ (s.guards.setState i .opened).openSet := (hmem x).2 (.inl hx)
    simp [hempty] at this

/-- R165, R167: an input of a counting kind enters a set that is not empty: its entry acts, and no notice is raised. -/
theorem takeGuardChange_joins (hn : i ∉ s.openSet) (hk : s.guards.kind i ≠ .absent) (hne : s.openSet ≠ []) :
    takeGuardChange i .opened s = guardEntry (s.guards.kind i) { s with guards := s.guards.setState i .opened } := by
  have hin : i ∈ (s.guards.setState i .opened).openSet := (mem_openSet_opened hi h8 hl i).2 (.inr ⟨rfl, hk⟩)
  simp only [takeGuardChange]
  rw [if_pos ⟨hin, hn⟩, if_neg hne]
  rfl

/-- R165, R166: the last input of the set is shut. -/
theorem takeGuardChange_empties (h : s.openSet = [i]) : takeGuardChange i .closed s =
    guardClosed i (s.guards.kind i) { s with guards := s.guards.setState i .closed } := by
  have hmem := mem_openSet_closed hi h8 hl
  have hempty : (s.guards.setState i .closed).openSet = [] := List.eq_nil_iff_forall_not_mem.2 fun x hx => by
    obtain ⟨hx, hxi⟩ := (hmem x).1 hx
    exact hxi (by simpa [show s.guards.openSet = [i] from h] using hx)
  simp only [takeGuardChange]
  rw [if_neg fun hin => ((hmem i).1 hin.1).2 rfl, if_pos ⟨by simp [h], hempty⟩]
  rfl

/-- R165, R169: an input that is shut while it is not the last of the set leaves the rest as it is. -/
theorem takeGuardChange_leaves (h : s.openSet ≠ [i]) :
    takeGuardChange i .closed s = { s with guards := s.guards.setState i .closed } := by
  have hmem := mem_openSet_closed hi h8 hl
  refine takeGuardChange_quiet (fun hin => (((hmem i).1 hin).2 rfl).elim) fun hempty => ?_
  have hnodup : s.openSet.Nodup := (openSet_sorted s.guards).imp Nat.ne_of_lt
  rcases (hnodup.ne_singleton_iff i).1 h with hnil | ⟨x, hx, hxi⟩
  · exact hnil
  · have : x ∈ (s.guards.setState i .closed).openSet := (hmem x).2 ⟨hx, hxi⟩
    simp [hempty] at this

end

/-! ## An entry and what it acts on (R163, R166, R167) -/

/-- R165, R166: the guard unit as an input has entered the open-guard set. -/
def Guards.entered (i : Nat) (g : Guards) : Guards :=
  let opened := { g with states := g.states.set (i - 1) .opened }
  if g.openSet = [] then { opened with firstOpened := some (FirstOpened.input i), openTicks := 0 } else opened

/-- R166: the notice of an input's entry into an empty set. -/
def raiseEntry (i : Nat) (g : Guards) (u : State) : State :=
  if g.openSet = [] then u.raise (.guardOpen i (g.kind i) [i]) else u

/-- R163 to R167: an input's entry that acts on the motion block alone. -/
theorem exec_guardInputChange_enters (enc : Int) (hi : 1 ≤ i) (h8 : i ≤ 8) (hl : s.guards.states.length = 8)
    (hn : i ∉ s.openSet) (hk : s.guards.kind i ≠ .absent) {m : Motion}
    (hentry : guardEntry (s.guards.kind i) { latched enc s with guards := s.guards.setState i .opened } =
      { latched enc s with guards := s.guards.setState i .opened, motion := m }) :
    exec (.guardInputChange i true enc) s = .next (State.arbiters (raiseEntry i s.guards
      { latched enc s with guards := s.guards.entered i, motion := m })) := by
  by_cases he : s.guards.openSet = []
  · rw [exec_guardInputChange_opens enc hi h8 hl he hk hentry, raiseEntry, if_pos he, Guards.entered, if_pos he]
  · have hjoins : takeGuardChange i .opened (latched enc s) = _ :=
      takeGuardChange_joins (s := latched enc s) hi h8 hl hn hk he
    rw [exec_guardInputChange true enc hi h8, if_pos rfl, hjoins, raiseEntry, if_neg he, Guards.entered, if_neg he]
    exact congrArg done hentry

/-- R167: at rest outside a program an input's entry ends nothing. -/
theorem guardEntry_still (k : GuardKind)
    (hst : s.motion.stroke = .unhomed ∨ s.motion.stroke = .idle ∨ s.motion.stroke = .faulted) : guardEntry k s = s := by
  rcases hst with h | h | h <;> simp only [guardEntry, h]

/-- R82, R167: in STOPPING an ESTOP input drops the drive enable. -/
theorem guardEntry_stopping (k : GuardKind) (hst : s.motion.stroke = .stopping) :
    guardEntry k s = { s with motion := if k = .estop then { s.motion with
      ramp := .zero, stop := s.motion.stop.map (fun r => { r with dropped := true }) } else s.motion } := by
  by_cases hk : k = .estop <;> simp [guardEntry, hst, hk, dropStop]

/-- R82, R167: an input's entry ends a retract. -/
theorem guardEntry_retracting (k : GuardKind) (hst : s.motion.stroke = .retracting) :
    guardEntry k s = { s with motion := { s.motion with
      stroke := .stopping, commanded := 0, phase := .none
      ramp := if k = .estop then .zero else slowRamp 2000 s.motion.ramp
      stop := some {
        cause := .cause .guard, dropped := decide (k = .estop), follow := .idle
        rate := if k = .estop then 2000 else rateInForce 2000 s.motion.ramp } } } := by
  by_cases hk : k = .estop <;> simp [guardEntry, hst, hk, beginStop, Config.slowRate]

/-! ## Drive enable (R67, R168) -/

/-- R168: an ESTOP input in the open-guard set holds enable off. -/
theorem estopHold_iff (g : Guards) : g.estopHold = true ↔ ∃ i ∈ g.openSet, g.kind i = .estop := by
  simp only [Guards.estopHold, List.any_eq_true, decide_eq_true_eq]

theorem enable_of_estop (h : ∃ i ∈ s.openSet, s.guards.kind i = .estop) : s.enable = false := by
  rw [State.enable, (estopHold_iff s.guards).2 h, Bool.not_true, Bool.and_false]

/-- R67: with no ESTOP input in the set, enable is as the stroke state gives it. -/
theorem enable_of_no_estop (h : ∀ i ∈ s.openSet, s.guards.kind i ≠ .estop) : s.enable = s.motion.enableByState := by
  have hheld : s.guards.estopHold = false := by
    rw [← Bool.not_eq_true, estopHold_iff]
    exact fun ⟨i, hi, hk⟩ => h i hi hk
  rw [State.enable, hheld, Bool.not_false, Bool.and_true]

end

/-- Settles O59: the input's change by what it does to the open-guard set, an entry by the stroke state it finds, and drive
enable. -/
theorem guardChangesTheOpenSet : Obligations.GuardChangesTheOpenSet := by
  refine ⟨fun i enc s hi h8 hl => ?_, fun s => ⟨enable_of_estop, fun h => ?_⟩⟩
  · intro kind opens closes entered raised m
    have hlatched : (latched enc s).guards.states.length = 8 := hl
    refine ⟨fun h => ?_, fun hn hk => ⟨fun hst => ?_, fun hst => ?_, fun hst => ?_⟩, fun h => ?_, fun h => ?_⟩
    · rw [exec_guardInputChange true enc hi h8, if_pos rfl, takeGuardChange_stays hi h8 hlatched h]
      rfl
    · exact exec_guardInputChange_enters enc hi h8 hl hn hk (guardEntry_still _ hst)
    · exact exec_guardInputChange_enters enc hi h8 hl hn hk (guardEntry_stopping _ hst)
    · exact exec_guardInputChange_enters enc hi h8 hl hn hk (guardEntry_retracting _ hst)
    · rw [exec_guardInputChange false enc hi h8, if_neg nofun, takeGuardChange_empties hi h8 hlatched h]
      rfl
    · rw [exec_guardInputChange false enc hi h8, if_neg nofun, takeGuardChange_leaves hi h8 hlatched h]
      rfl
  · rw [enable_of_no_estop h, Motion.enableByState]
    cases s.motion.stroke <;> rfl

end Sys2Proof.Machine
end

section
/-! PROOFS. The profile buffer: which bin a sample enters, what it leaves there, and how a channel stays canonical (R93, R96 to
R98, R100 to R102). -/

namespace Sys2Proof.Machine

/-! ## The bin of a depth (R96) -/

theorem binOfDepth_of_span {d : Int} (h0 : 0 ≤ d) (h : d < 4000) : binOfDepth d = some (d.toNat / 5) := if_pos ⟨h0, h⟩

theorem binOfDepth_outside {d : Int} (h : d < 0 ∨ 4000 ≤ d) : binOfDepth d = none :=
  if_neg fun hspan => by
    have hlt : d < 4000 := hspan.2
    omega

theorem binOfDepth_lt {d : Int} {b : Nat} (h : binOfDepth d = some b) : b < 800 := by
  by_cases hd : 0 ≤ d ∧ d < 4000
  · rw [binOfDepth_of_span hd.1 hd.2, Option.some.injEq] at h
    omega
  · rw [binOfDepth_outside (by omega)] at h
    cases h

/-! ## A sample in its bin (R97, R98) -/

/-- R97, R98: the profile with a sample in a bin of a channel. -/
def Profile.binInto (p : Profile) (ch b value : Nat) (suspect : Bool) : Profile :=
  { p.onChannel ch (fun c => binWrite c b (binSample (binRead c b) value suspect)) with deepest := deepen p.deepest b }

section
variable {p : Profile} {ch b : Nat} {position t : Int} (value : Nat) (suspect : Bool)

theorem bin_of_depth (ht : p.touch = some t) (hb : binOfDepth (position - t) = some b) :
    p.bin ch position value suspect = p.binInto ch b value suspect := by
  simp only [Profile.bin, ht, hb, Profile.binInto]

theorem bin_outside (ht : p.touch = some t) (hb : binOfDepth (position - t) = none) :
    p.bin ch position value suspect = p := by
  simp only [Profile.bin, ht, hb]

/-- R96: a sample enters a bin of the span, or is not binned. -/
theorem bin_cases (p : Profile) (ch : Nat) (position : Int) :
    p.bin ch position value suspect = p
      ∨ ∃ b, b < 800 ∧ p.bin ch position value suspect = p.binInto ch b value suspect := by
  cases ht : p.touch with
  | none => exact .inl (by simp only [Profile.bin, ht])
  | some t =>
    cases hb : binOfDepth (position - t) with
    | none => exact .inl (bin_outside value suspect ht hb)
    | some b => exact .inr ⟨b, binOfDepth_lt hb, bin_of_depth value suspect ht hb⟩

/-! ## A ram sample by the leading bin (R100) -/

/-- R100: the profile with a ram sample in a bin deeper than the leading bin `l`, the bins between closed. -/
def Profile.leadTo (p : Profile) (l b value : Nat) (suspect : Bool) : Profile :=
  { (p.onChannel 0 (fillGap (binRead (p.channel 0) l).value (l + 1) (b - l - 1))).binInto 0 b value suspect with
    leading := some b }

theorem binRam_outside (ht : p.touch = some t) (hb : binOfDepth (position - t) = none) :
    p.binRam position value suspect = (p, []) := by
  simp only [Profile.binRam, ht, hb]

theorem binRam_first (ht : p.touch = some t) (hb : binOfDepth (position - t) = some b) (hl : p.leading = none) :
    p.binRam position value suspect = ({ p.binInto 0 b value suspect with leading := some b }, []) := by
  simp only [Profile.binRam, ht, hb, hl, bin_of_depth value suspect ht hb]

theorem binRam_shallow {l : Nat} (ht : p.touch = some t) (hb : binOfDepth (position - t) = some b) (hl : p.leading = some l)
    (h : b ≤ l) : p.binRam position value suspect = (p.binInto 0 b value suspect, []) := by
  simp only [Profile.binRam, ht, hb, hl, if_neg (Nat.not_lt.2 h), bin_of_depth value suspect ht hb]

theorem binRam_deeper {l : Nat} (ht : p.touch = some t) (hb : binOfDepth (position - t) = some b) (hl : p.leading = some l)
    (h : l < b) : p.binRam position value suspect =
      (p.leadTo l b value suspect, (List.range' l (b - l)).map (p.leadTo l b value suspect).completion) := by
  have hgap : (p.onChannel 0 (fillGap (binRead (p.channel 0) l).value (l + 1) (b - l - 1))).touch = some t := ht
  simp only [Profile.binRam, ht, hb, hl, if_pos h, bin_of_depth value suspect hgap hb, Profile.leadTo]

/-- R100: a ram sample is not binned, or enters a bin of the span in one of three ways. -/
theorem binRam_cases (p : Profile) (position : Int) : (p.binRam position value suspect).1 = p ∨ ∃ b, b < 800
    ∧ ((p.binRam position value suspect).1 = { p.binInto 0 b value suspect with leading := some b }
      ∨ (p.binRam position value suspect).1 = p.binInto 0 b value suspect
      ∨ ∃ l < b, (p.binRam position value suspect).1 = p.leadTo l b value suspect) := by
  cases ht : p.touch with
  | none => exact .inl (by simp only [Profile.binRam, ht])
  | some t =>
    cases hb : binOfDepth (position - t) with
    | none => exact .inl (by rw [binRam_outside value suspect ht hb])
    | some b =>
      refine .inr ⟨b, binOfDepth_lt hb, ?_⟩
      cases hl : p.leading with
      | none => exact .inl (by rw [binRam_first value suspect ht hb hl])
      | some l =>
        rcases Nat.lt_or_ge l b with h | h
        · exact .inr (.inr ⟨l, h, by rw [binRam_deeper value suspect ht hb hl h]⟩)
        · exact .inr (.inl (by rw [binRam_shallow value suspect ht hb hl h]))

/-- R89: a ram sample leaves the touch position. -/
theorem binRam_touch (p : Profile) (position : Int) : (p.binRam position value suspect).1.touch = p.touch := by
  rcases binRam_cases value suspect p position with h | ⟨b, _, h | h | ⟨l, _, h⟩⟩ <;> rw [h] <;> rfl

end

/-! ## The canonical form (R93, R98, R100) -/

/-- What `ProfileSound` asks, of the profile alone. -/
structure Profile.Canonical (p : Profile) : Prop where
  channels : ∀ c ∈ p.channels, binsWf c = true
  deepest : ∀ d, p.deepest = some d → d < 800
  leading : ∀ l, p.leading = some l → l < 800

theorem profileSound_iff (s : State) : ProfileSound s ↔ s.profile.Canonical :=
  ⟨fun h => ⟨h.channels, h.deepest, h.leading⟩, fun h => ⟨h.channels, h.deepest, h.leading⟩⟩

/-- R93: a profile with no bin listed and no mark set. -/
theorem canonical_of_blank {p : Profile} (hc : ∀ c ∈ p.channels, c = []) (hd : p.deepest = none) (hl : p.leading = none) :
    p.Canonical :=
  ⟨fun c h => hc c h ▸ rfl, by simp [hd], by simp [hl]⟩

section
variable {p : Profile}

/-- R93: a change of one channel that keeps its form. -/
theorem canonical_onChannel (ch : Nat) {f : Bins → Bins} (hf : ∀ c, binsWf c = true → binsWf (f c) = true)
    (hp : p.Canonical) : (p.onChannel ch f).Canonical := by
  refine ⟨fun c hc => ?_, hp.deepest, hp.leading⟩
  obtain ⟨i, hi⟩ := List.mem_iff_getElem?.1 hc
  rw [Profile.onChannel, List.getElem?_modify] at hi
  obtain ⟨c', hc', rfl⟩ := Option.map_eq_some_iff.1 hi
  have hwf := hp.channels c' (List.mem_of_getElem? hc')
  split
  · exact hf c' hwf
  · exact hwf

/-- R98: the deepest bin lies in the span. -/
theorem canonical_binInto {b : Nat} (ch value : Nat) (suspect : Bool) (hb : b < 800) (hp : p.Canonical) :
    (p.binInto ch b value suspect).Canonical := by
  have hchannels := canonical_onChannel ch (fun c hc => binsWf_binWrite (binSample (binRead c b) value suspect) hc hb) hp
  refine ⟨hchannels.channels, fun d hd => ?_, hp.leading⟩
  cases hold : p.deepest with
  | none => simp [Profile.binInto, deepen, hold] at hd; omega
  | some old =>
    have := hp.deepest old hold
    simp [Profile.binInto, deepen, hold] at hd; omega

theorem canonical_bin (ch : Nat) (position : Int) (value : Nat) (suspect : Bool) (hp : p.Canonical) :
    (p.bin ch position value suspect).Canonical := by
  rcases bin_cases value suspect p ch position with h | ⟨b, hb, h⟩ <;> rw [h]
  · exact hp
  · exact canonical_binInto ch value suspect hb hp

theorem canonical_leading {b : Nat} (hb : b < 800) (hp : p.Canonical) : { p with leading := some b }.Canonical :=
  ⟨hp.channels, hp.deepest, fun l hl => by cases hl; exact hb⟩

/-- R100: the bins closed before the sample's own lie in the span. -/
theorem canonical_leadTo {l b : Nat} (value : Nat) (suspect : Bool) (hl : l < b) (hb : b < 800) (hp : p.Canonical) :
    (p.leadTo l b value suspect).Canonical :=
  canonical_leading hb (canonical_binInto 0 value suspect hb
    (canonical_onChannel 0 (fun _ hc => binsWf_fillGap _ _ _ hc (by omega)) hp))

theorem canonical_binRam (position : Int) (value : Nat) (suspect : Bool) (hp : p.Canonical) :
    (p.binRam position value suspect).1.Canonical := by
  rcases binRam_cases value suspect p position with h | ⟨b, hb, h | h | ⟨l, hl, h⟩⟩ <;> rw [h]
  · exact hp
  · exact canonical_leading hb (canonical_binInto 0 value suspect hb hp)
  · exact canonical_binInto 0 value suspect hb hp
  · exact canonical_leadTo value suspect hl hb hp

theorem canonical_binFingers (map : List Nat) (position : Int) (finger : List (Nat × FingerSample)) (hp : p.Canonical) :
    (binFingers map position finger p).Canonical := by
  unfold binFingers
  split
  · next hbinning =>
    clear hbinning
    generalize map.zipIdx = columns
    induction columns generalizing p with
    | nil => exact hp
    | cons c columns ih =>
      refine ih ?_
      simp only
      split
      · exact canonical_bin _ _ _ _ hp
      · exact hp
  · exact hp

/-- R101: the end treatment goes down to the deepest bin, which lies in the span. -/
theorem canonical_close (hp : p.Canonical) : p.close.Canonical := by
  simp only [Profile.close]
  split
  · exact ⟨hp.channels, hp.deepest, hp.leading⟩
  · next d hd =>
    refine ⟨fun c hc => ?_, hp.deepest, hp.leading⟩
    obtain ⟨⟨c', ch⟩, hc', rfl⟩ := List.mem_map.1 hc
    exact binsWf_treatChannel (hp.channels c' (List.fst_mem_of_mem_zipIdx hc')) (hp.deepest d hd)

theorem canonical_profileAfter (h : InHand) (ended : Bool) (hp : p.Canonical) : (profileAfter h ended p).Canonical := by
  have hmarked : (if bodyKind h.record.body = .press then { p with pressEnd := p.deepest } else p).Canonical := by
    split
    · exact ⟨hp.channels, hp.deepest, hp.leading⟩
    · exact hp
  simp only [profileAfter]
  split
  · exact canonical_close hmarked
  · exact hmarked

end

end Sys2Proof.Machine
end

section
/-! PROOFS. Every step keeps the profile buffer in canonical form and its marks in its span (R93, R94, R98, R100, R101). -/

namespace Sys2Proof.Machine

/-! ## What leaves the profile alone -/

@[simp] theorem handOver_profile (s : State) : (handOver s).profile = s.profile := by
  unfold handOver
  split
  · rfl
  · split <;> rfl

@[simp] theorem takeFollowOn_profile (s : State) : (takeFollowOn s).profile = s.profile := by
  unfold takeFollowOn
  split
  · rfl
  · split
    · rfl
    · rfl
    · split <;> rfl

@[simp] theorem abortTare_profile (s : State) : (abortTare s).profile = s.profile := by
  unfold abortTare
  split
  · rfl
  · exact refuse_profile ..

@[simp] theorem trainingSuccess_profile (s : State) : (trainingSuccess s).profile = s.profile := by
  simp only [trainingSuccess]
  split <;> rfl

@[simp] theorem trainingTimeout_profile (passed : List Nat) (s : State) : (trainingTimeout passed s).profile = s.profile := by
  simp only [trainingTimeout]
  split <;> rfl

@[simp] theorem descriptorAnswered_profile (kind : Nat) (o : Orientation) (s : State) :
    (descriptorAnswered kind o s).profile = s.profile := by
  unfold descriptorAnswered
  split <;> rfl

@[simp] theorem raisePeaks_profile (value : Nat) (s : State) : (raisePeaks value s).profile = s.profile := by
  unfold raisePeaks
  split <;> rfl

@[simp] theorem takeRetractReached_profile (s : State) : (takeRetractReached s).profile = s.profile := by
  unfold takeRetractReached
  split <;> rfl

@[simp] theorem takeGuardConfig_profile (entries : List (Option GuardKind)) (s : State) :
    (takeGuardConfig entries s).profile = s.profile := by
  simp only [takeGuardConfig]
  repeat' split
  all_goals rfl

@[simp] theorem expireHold_profile (r : Record) (s : State) : (expireHold r s).profile = s.profile := by
  simp only [expireHold]
  split <;> rfl

/-- R65: the judgement reads the profile, and leaves it to PROFILE READ. -/
@[simp] theorem takeRestReport_profile (s : State) : (takeRestReport s).profile = s.profile := by
  unfold takeRestReport announce
  split
  · dsimp only
    split <;> rfl
  · rfl

section
variable (l : Link) (tag : Nat) (s : State)

@[simp] theorem serveTare_profile : (serveTare l tag s).profile = s.profile := by
  unfold serveTare
  repeat' split
  case isFalse.isFalse.isTrue => rfl
  all_goals exact refuse_profile ..

@[simp] theorem acceptStep_profile (j : Job) (rec : StepRecord) (next : Grammar) :
    (acceptStep j rec next s).profile = s.profile := by
  simp only [acceptStep]
  split
  · exact handOver_profile _
  · rfl

@[simp] theorem serveStep_profile (offer : StepOffer) (last : Nat) : (serveStep l tag offer last s).profile = s.profile := by
  simp only [serveStep]
  repeat' split
  all_goals simp

@[simp] theorem serveMask_profile (operation kinds : Nat) : (serveMask l tag operation kinds s).profile = s.profile := by
  simp only [serveMask]
  repeat' split
  all_goals simp

@[simp] theorem serveQualify_profile (typeId headKind level interval : Nat) :
    (serveQualify l tag typeId headKind level interval s).profile = s.profile := by
  unfold serveQualify qualifyAs
  repeat' split
  all_goals exact reply_profile ..

@[simp] theorem serveGuardConfig_profile (codes : List Nat) : (serveGuardConfig l tag codes s).profile = s.profile := by
  simp only [serveGuardConfig]
  repeat' split
  all_goals simp

end

/-! ## The ends of steps and programs (R57 to R64, R98, R101, R102) -/

section
variable {s : State}

/-- No step in hand, none ends. -/
theorem endStep_idle (c : EndCause) (stop : Int) (drop : Bool) (hh : s.inHand = none) : endStep c stop drop s = s := by
  unfold endStep
  split
  · next hsome => simp [hh] at hsome
  · rfl

/-- R98, R101: of the profile, the end of the step in hand marks the press end, and the program's end closes it. -/
theorem endStep_profile {h : InHand} (c : EndCause) (stop : Int) (drop : Bool) (hh : s.inHand = some h) :
    ∃ ended, (endStep c stop drop s).profile = profileAfter h ended s.profile := by
  obtain ⟨j, r, hj, hr, hin⟩ := job_of_inHand hh
  by_cases hn : c = normalEnd (bodyKind h.record.body)
  · exact ⟨_, hn ▸ (endStep_goes_on stop drop hj hr hin).profile⟩
  · by_cases hd : c = .driveFault
    · exact ⟨true, by rw [hd, endStep_driveFault stop drop hj hr hin]⟩
    · exact ⟨true, (endStep_aborts c stop drop hj hr hin hn hd).profile⟩

/-- R59, R102: the end of a PAUSED program closes the profile. -/
theorem endPaused_profile (c : EndCause) (drop : Bool) (s : State) : (endPaused c drop s).profile = s.profile.close := by
  simp only [endPaused]
  split
  · rfl
  · split
    · exact takeFollowOn_profile _
    · rfl

theorem endStep_canonical (c : EndCause) (stop : Int) (drop : Bool) (hs : s.profile.Canonical) :
    (endStep c stop drop s).profile.Canonical := by
  cases hh : s.inHand with
  | none => rwa [endStep_idle c stop drop hh]
  | some h =>
    obtain ⟨ended, hprofile⟩ := endStep_profile c stop drop hh
    exact hprofile ▸ canonical_profileAfter h ended hs

theorem endPaused_canonical (c : EndCause) (drop : Bool) (hs : s.profile.Canonical) : (endPaused c drop s).profile.Canonical :=
  endPaused_profile c drop s ▸ canonical_close hs

theorem interrupt_canonical (c : EndCause) (drop : Bool) (hs : s.profile.Canonical) :
    (interrupt c drop s).profile.Canonical := by
  unfold interrupt
  split
  · exact endStep_canonical _ _ _ hs
  · split
    · exact endPaused_canonical _ _ hs
    · exact hs

theorem driveFault_canonical (src : FaultSource) (hs : s.profile.Canonical) : (driveFault src s).profile.Canonical := by
  have htaken : (faultTaken src s).profile.Canonical := hs
  by_cases hf : s.motion.stroke = .faulted
  · rwa [driveFault_of_faulted src hf]
  · cases hh : s.inHand with
    | some h =>
      rw [driveFault_of_inHand src hf hh]
      exact endStep_canonical _ _ _ htaken
    | none =>
      by_cases hp : s.motion.stroke = .paused
      · rw [driveFault_of_paused src hh hp]
        exact endPaused_canonical _ _ htaken
      · rwa [driveFault_of_rest src hf hh hp]

theorem guardEntry_canonical (k : GuardKind) (hs : s.profile.Canonical) : (guardEntry k s).profile.Canonical := by
  simp only [guardEntry]
  split
  case h_4 => exact interrupt_canonical _ _ hs
  case h_5 => exact interrupt_canonical _ _ hs
  case h_6 => split <;> exact hs
  all_goals exact hs

theorem sensingLost_canonical (hs : s.profile.Canonical) : (sensingLost s).profile.Canonical := by
  unfold sensingLost
  split
  · exact interrupt_canonical _ _ hs
  · exact interrupt_canonical _ _ hs
  · exact hs
  · exact hs

theorem leaveReady_canonical (hs : s.profile.Canonical) : (leaveReady s).profile.Canonical :=
  sensingLost_canonical (s := fingersStop s) hs

/-! ## The head, the guards, and the ends of steps that the motion block sees -/

theorem beginTraining_canonical (a : Nat) (hs : s.profile.Canonical) : (beginTraining a s).profile.Canonical := by
  have htare : (abortTare s).profile.Canonical := by simpa using hs
  simp only [beginTraining]
  split
  · exact leaveReady_canonical htare
  · exact htare

theorem detach_canonical (hs : s.profile.Canonical) : (detach s).profile.Canonical := by
  have htare : (abortTare s).profile.Canonical := by simpa using hs
  simp only [detach]
  split
  · exact leaveReady_canonical htare
  · exact htare

theorem takeGuardChange_canonical (i : Nat) (d : Debounced) (hs : s.profile.Canonical) :
    (takeGuardChange i d s).profile.Canonical := by
  simp only [takeGuardChange]
  split
  · split <;> exact guardEntry_canonical _ hs
  · split <;> exact hs

theorem takeMoveReached_canonical (hs : s.profile.Canonical) : (takeMoveReached s).profile.Canonical := by
  unfold takeMoveReached
  split
  · split
    · exact endStep_canonical _ _ _ hs
    · exact hs
  · exact hs

theorem takeProbeArrival_canonical (hs : s.profile.Canonical) : (takeProbeArrival s).profile.Canonical := by
  unfold takeProbeArrival
  split
  · split
    · exact endStep_canonical _ _ _ hs
    · exact hs
  · exact hs

theorem takeStall_canonical (hs : s.profile.Canonical) : (takeStall s).profile.Canonical := by
  unfold takeStall
  split
  · exact hs
  · split
    case h_1 => exact interrupt_canonical _ _ hs
    all_goals exact hs

theorem takeTravelLimit_canonical (hs : s.profile.Canonical) : (takeTravelLimit s).profile.Canonical := by
  unfold takeTravelLimit
  split
  · exact endStep_canonical _ _ _ hs
  · exact hs

/-! ## Samples (R87 to R97, R100, R109, R112) -/

/-- R90: touch is written and the sample that made it binned. -/
theorem takeTouch_canonical (a b : Nat) (position : Int) (value : Nat) (suspect : Bool) (hs : s.profile.Canonical) :
    (takeTouch a b position value suspect s).profile.Canonical := by
  simp only [takeTouch]
  split
  · refine endStep_canonical _ _ _ ?_
    exact canonical_binRam _ _ _ ⟨hs.channels, hs.deepest, hs.leading⟩
  · exact endStep_canonical _ _ _ ⟨hs.channels, hs.deepest, hs.leading⟩

theorem takeKnee_canonical (lim : Limits) (k : Nat) (position : Int) (hs : s.profile.Canonical) :
    (takeKnee lim k position s).profile.Canonical := by
  simp only [takeKnee]
  refine endStep_canonical _ _ _ ?_
  split <;> exact hs

theorem ramTests_canonical (position : Int) (value : Nat) (completed : List Completion) (hs : s.profile.Canonical) :
    (ramTests position value completed s).profile.Canonical := by
  unfold ramTests
  split
  · split
    · exact endStep_canonical _ _ _ hs
    · split
      · exact takeKnee_canonical _ _ _ hs
      · split
        · exact endStep_canonical _ _ _ hs
        · exact hs
  · exact hs

theorem useRamSample_canonical (position : Int) (value : Nat) (suspect : Bool) (hs : s.profile.Canonical) :
    (useRamSample position value suspect s).profile.Canonical := by
  simp only [useRamSample]
  split
  · split
    · exact takeTouch_canonical _ _ _ _ _ hs
    · exact hs
  · have hbinned : (if s.profile.binning then s.profile.binRam position value suspect
        else (s.profile, [])).1.Canonical := by
      split
      · exact canonical_binRam _ _ _ hs
      · exact hs
    split
    · exact ramTests_canonical _ _ _ hbinned
    · exact hbinned

theorem takeRamSample_canonical (raw enc : Int) (hs : s.profile.Canonical) : (takeRamSample raw enc s).profile.Canonical := by
  have htaken : (ramSampled raw enc s).profile.Canonical := ⟨hs.channels, hs.deepest, hs.leading⟩
  rw [takeRamSample_eq]
  split
  · exact htaken
  · exact useRamSample_canonical _ _ _ htaken

theorem useFinger_canonical (r : Run) (finger : List (Nat × FingerSample)) (hs : s.profile.Canonical) :
    (useFinger r finger s).profile.Canonical := by
  have hbinned : (if r.fingersGone then s
      else { s with profile := binFingers r.map s.motion.position finger s.profile }).profile.Canonical := by
    split
    · exact hs
    · exact canonical_binFingers _ _ _ hs
  simp only [useFinger]
  split
  · split
    · exact endStep_canonical _ _ _ hbinned
    · exact hbinned
  · exact hbinned

theorem positionFailed_canonical (p : Nat) (hs : s.profile.Canonical) : (positionFailed p s).profile.Canonical := by
  unfold positionFailed
  split
  · exact sensingLost_canonical hs
  · exact hs

theorem takeAlert_canonical (a : Alert) (hs : s.profile.Canonical) : (takeAlert s a).profile.Canonical := by
  simp only [takeAlert]
  split
  · exact hs
  · split
    · exact positionFailed_canonical _ hs
    · exact hs

theorem takeAlerts_canonical (alerts : List Alert) (hs : s.profile.Canonical) :
    (alerts.foldl takeAlert s).profile.Canonical := by
  induction alerts generalizing s with
  | nil => exact hs
  | cons a alerts ih => exact ih (takeAlert_canonical a hs)

theorem takeFrameInstant_canonical (enc : Int) (frames : List LaneFrame) (hs : s.profile.Canonical) :
    (takeFrameInstant enc frames s).profile.Canonical := by
  simp only [takeFrameInstant]
  refine takeAlerts_canonical _ ?_
  split
  · exact useFinger_canonical _ _ hs
  · exact hs

/-! ## Requests -/

/-- R94: a press opens with every channel blank. -/
theorem serveStart_canonical (l : Link) (tag : Nat) (hs : s.profile.Canonical) : (serveStart l tag s).profile.Canonical := by
  have hopened (j : Job) (e : TypeEntry) (q : QualEntry) : (openPress j e q s).profile.Canonical :=
    canonical_of_blank (fun _ hc => (List.mem_replicate.1 hc).2) rfl rfl
  unfold serveStart
  repeat' split
  case h_3 => simpa using hopened _ _ _
  all_goals simpa using hs

theorem stopJob_canonical (hs : s.profile.Canonical) : (stopJob s).profile.Canonical := by
  unfold stopJob
  split
  · exact hs
  · split
    · exact hs
    · split
      · exact hs
      · exact interrupt_canonical _ _ hs

theorem serveStop_canonical (l : Link) (tag : Nat) (hs : s.profile.Canonical) : (serveStop l tag s).profile.Canonical := by
  simp only [serveStop, takeStop, reply_profile]
  split <;> exact stopJob_canonical hs

theorem serveRetrain_canonical (l : Link) (tag : Nat) (hs : s.profile.Canonical) :
    (serveRetrain l tag s).profile.Canonical := by
  unfold serveRetrain
  split
  · simpa using hs
  · split
    · simpa using hs
    · rw [reply_profile]
      exact beginTraining_canonical 1 hs

/-- R94: after a reset no channel stands. -/
theorem canonical_reset : Profile.reset.Canonical := canonical_of_blank (by simp [Profile.reset]) rfl rfl

theorem serveRestart_canonical (l : Link) (tag : Nat) (hs : s.profile.Canonical) :
    (serveRestart l tag s).profile.Canonical := by
  unfold serveRestart
  split
  · simpa using hs
  · exact canonical_reset

/-- Every request keeps the canonical form; those not named end each of their checks in an answer. -/
theorem serve_canonical (closed : Bool) (r : Request) (l : Link) (tag : Nat) (hs : s.profile.Canonical) :
    (serve closed r l tag s).profile.Canonical := by
  cases r with
  | restart => exact serveRestart_canonical l tag hs
  | retrain => exact serveRetrain_canonical l tag hs
  | start => exact serveStart_canonical l tag hs
  | stop => exact serveStop_canonical l tag hs
  | tare => simpa [serve] using hs
  | step o last => simpa [serve] using hs
  | mask op k => simpa [serve] using hs
  | qualify t k v n => simpa [serve] using hs
  | guardConfig es => simpa [serve] using hs
  | _ =>
    simp only [serve, serveIdent, serveState, serveHeadMap, serveClassPut, serveClassDrop, serveClassGet, serveCataloguePut,
      serveCatalogueDrop, serveCatalogueGet, serveJob, serveStepFlush, serveHome, serveRetract, serveClearFault,
      serveProfileRead, serveResultSummary, serveResultColumn, serveResultPins, serveResultRelease, serveQualifyGet,
      serveDispose, serveHoldTime]
    repeat' split
    all_goals simpa using hs

theorem takeRequest_canonical (l : Link) (tag code : Nat) (body : Option Request) (closed : Bool) (hs : s.profile.Canonical) :
    (takeRequest l tag code body s closed).profile.Canonical := by
  have hrx : (s.setRx l .hunting).profile.Canonical := by simpa using hs
  simp only [takeRequest]
  repeat' split
  case h_2 => exact serve_canonical closed _ l tag hrx
  all_goals simpa using hs

theorem takeFrame_canonical (l : Link) (bs : List Byte) (closed : Bool) (hs : s.profile.Canonical) :
    (takeFrame l bs closed s).profile.Canonical := by
  unfold takeFrame
  repeat' split
  case h_1.isTrue => exact takeRequest_canonical l _ _ _ closed hs
  all_goals simpa using hs

theorem receiveByte_canonical (l : Link) (b : Byte) (closed : Bool) (hs : s.profile.Canonical) :
    (receiveByte l b closed s).profile.Canonical := by
  simp only [receiveByte]
  repeat' split
  case h_2.isFalse.isFalse => exact takeFrame_canonical l _ closed hs
  all_goals simpa using hs

end

/-! ## The step -/

/-- A command's next state has its profile in canonical form. -/
def LeavesCanonical (o : Host.Outcome State Fault Refusal) : Prop := ∃ u, o = done u ∧ u.profile.Canonical

theorem leavesCanonical_done {u : State} (h : u.profile.Canonical) : LeavesCanonical (done u) := ⟨u, rfl, h⟩

/-- An event that is taken under a condition. -/
theorem leavesCanonical_ite {u v : State} {c : Prop} [Decidable c] (hu : u.profile.Canonical) (hv : v.profile.Canonical) :
    LeavesCanonical (if c then done u else done v) := by
  split
  · exact leavesCanonical_done hu
  · exact leavesCanonical_done hv

section
variable {s : State}

theorem execHandoverEnd_leaves_canonical (enc : Int) (hs : s.profile.Canonical) : LeavesCanonical (execHandoverEnd s enc) := by
  simp only [execHandoverEnd]
  split
  · exact leavesCanonical_ite (endStep_canonical _ _ _ hs) hs
  · exact leavesCanonical_done hs

theorem execHomingComplete_leaves_canonical (hs : s.profile.Canonical) : LeavesCanonical (execHomingComplete s) := by
  unfold execHomingComplete
  split
  · exact leavesCanonical_ite hs hs
  · exact leavesCanonical_done hs

theorem execTareComplete_leaves_canonical (hs : s.profile.Canonical) : LeavesCanonical (execTareComplete s) := by
  unfold execTareComplete
  split
  · exact leavesCanonical_ite hs hs
  · exact leavesCanonical_done hs

theorem execHoldOverdue_leaves_canonical (hs : s.profile.Canonical) : LeavesCanonical (execHoldOverdue s) := by
  unfold execHoldOverdue
  split
  · exact leavesCanonical_done (by simpa using hs)
  · exact leavesCanonical_done hs

theorem execHeadDetach_leaves_canonical (enc : Int) (hs : s.profile.Canonical) : LeavesCanonical (execHeadDetach s enc) :=
  leavesCanonical_ite hs (detach_canonical (s := s.latch enc) hs)

theorem execUnknownRequest_leaves_canonical (h : Header) (code : Nat) (hs : s.profile.Canonical) :
    LeavesCanonical (execUnknownRequest h code s) :=
  leavesCanonical_ite hs (takeRequest_canonical _ _ _ _ _ hs)

/-- A command that carries no request leaves the profile in canonical form. -/
theorem event_leaves_canonical {i : Instr} (hi : i.request? = none) (hs : s.profile.Canonical) :
    LeavesCanonical (exec i s) := by
  have hlatch (enc : Int) : (s.latch enc).profile.Canonical := hs
  cases i with
  | powerOn => exact leavesCanonical_done canonical_reset
  | unknownRequest h code => exact execUnknownRequest_leaves_canonical h code hs
  | frameByteReceived l b closed => exact leavesCanonical_done (receiveByte_canonical l b closed hs)
  | restReport => exact leavesCanonical_ite (by simpa using hs) hs
  | holdOverdue => exact execHoldOverdue_leaves_canonical hs
  | handoverEnd enc => exact execHandoverEnd_leaves_canonical enc hs
  | homingComplete => exact execHomingComplete_leaves_canonical hs
  | tareComplete => exact execTareComplete_leaves_canonical hs
  | headDetach enc => exact execHeadDetach_leaves_canonical enc hs
  | frameDiscard l => exact leavesCanonical_done (by simpa using hs)
  | interByteTimeout l => exact leavesCanonical_done (by simpa using hs)
  | transmitFrameEnd l => exact leavesCanonical_done (by simpa using hs)
  | ramSample raw enc => exact leavesCanonical_done (takeRamSample_canonical raw enc hs)
  | frameInstant enc frames => exact leavesCanonical_ite (takeFrameInstant_canonical enc frames hs) hs
  | moveReached enc => exact leavesCanonical_done (takeMoveReached_canonical (hlatch enc))
  | probeLimitArrival enc => exact leavesCanonical_done (takeProbeArrival_canonical (hlatch enc))
  | stall enc => exact leavesCanonical_done (takeStall_canonical (hlatch enc))
  | travelLimit enc => exact leavesCanonical_done (takeTravelLimit_canonical (hlatch enc))
  | dwellElapsed enc => exact leavesCanonical_ite (endStep_canonical _ _ _ (hlatch enc)) hs
  | underrunTimeout enc => exact leavesCanonical_ite (endPaused_canonical _ _ (hlatch enc)) hs
  | stopAtRest enc => exact leavesCanonical_ite (by simpa [State.rest] using hs) hs
  | retractReached enc => exact leavesCanonical_ite (by simpa using hs) hs
  | driveReadyLost enc => exact leavesCanonical_ite (driveFault_canonical _ (hlatch enc)) hs
  | driveFaultInput enc => exact leavesCanonical_done (driveFault_canonical _ (hlatch enc))
  | stopTimeout enc => exact leavesCanonical_ite (driveFault_canonical _ (hlatch enc)) hs
  | guardInputChange input nowOpen enc => exact leavesCanonical_ite (takeGuardChange_canonical _ _ (hlatch enc)) hs
  | automaticRetrain enc => exact leavesCanonical_ite (beginTraining_canonical _ (hlatch enc)) hs
  | headAttach => exact leavesCanonical_ite (beginTraining_canonical 1 hs) hs
  | trainingAttemptSuccess => exact leavesCanonical_ite (by simpa using hs) hs
  | trainingAttemptTimeout passed => exact leavesCanonical_ite (by simpa using hs) hs
  | descriptorAnswer kind o => exact leavesCanonical_ite (by simpa using hs) hs
  | descriptorTimeout => exact leavesCanonical_ite hs hs
  | rollCallAnswer serial position kind => exact leavesCanonical_ite hs hs
  | rollCallClose => exact leavesCanonical_ite hs hs
  | driveReadyPresent => exact leavesCanonical_done hs
  | faultInputInactive => exact leavesCanonical_done hs
  | rampOutputZero => exact leavesCanonical_ite hs hs
  | homeSwitchClosed => exact leavesCanonical_ite hs hs
  | homingRest enc => exact leavesCanonical_ite hs hs
  | homingTimeout => exact leavesCanonical_ite hs hs
  | _ => simp [Instr.request?] at hi

/-- Every command leaves the profile in canonical form. -/
theorem exec_leaves_canonical (i : Instr) (hs : s.profile.Canonical) : LeavesCanonical (exec i s) := by
  cases hi : i.request? with
  | none => exact event_leaves_canonical hi hs
  | some p =>
    rw [exec_of_request hi]
    exact leavesCanonical_done (takeRequest_canonical _ _ _ _ _ hs)

end

/-- Settles O51: the invariant reads the profile alone, which samples bin within its span, a program's end closes, START and the
resets make blank, and every other command leaves. -/
theorem profileStaysCanonical : Obligations.ProfileStaysCanonical := by
  intro s t hs ht
  rw [profileSound_iff] at hs ⊢
  unfold step at ht
  split at ht
  · cases ht
    exact hs
  · next c rest _ =>
    obtain ⟨u, hu, hcanonical⟩ := exec_leaves_canonical (s := { s with pending := rest }) c hs
    rw [hu] at ht
    cases ht
    exact hcanonical

end Sys2Proof.Machine
end

section
/-! PROOFS. The ram sample that ends a PROBE: touch, its bases and the first sample binned (R87, R89 to R91, R98). -/

namespace Sys2Proof.Machine

/-! ## The sample as it is taken (R85, R87) -/

section
variable {s : State} {j : Job} {r : Run} {h : InHand}

/-- R85: the job after a ram sample, with its step in hand. -/
theorem ramSampled_job (raw enc : Int) (hj : s.job = some j) (hr : j.run = some r) (hh : r.inHand = some h) :
    (ramSampled raw enc s).job = some { j with run := some { r with inHand := some { h with
      travelled := h.travelled + (enc - s.motion.enc).natAbs
      peak := max h.peak (ramForce s.motion.ramOffset raw) } } } := by
  simp [ramSampled, hj, hr, hh]

/-- R138: a ram sample leaves the next press number. -/
theorem ramSampled_store (raw enc : Int) (s : State) (rs : List Record) :
    { (ramSampled raw enc s).store with records := rs } = { s.store with records := rs } := by
  by_cases hrun : s.run = none <;> simp [ramSampled, hrun]

/-- R89: a sample at the touch threshold with a PROBE in hand is the touch. -/
theorem useRamSample_touches {a b value : Nat} (position : Int) (suspect : Bool) (ha : armed s = some (a, b))
    (hv : touchThreshold s ≤ value) : useRamSample position value suspect s = takeTouch a b position value suspect s := by
  simp only [useRamSample, ha, if_pos hv]

end

/-! ## The sample in bin 0 (R98) -/

theorem binOfDepth_zero : binOfDepth 0 = some 0 := rfl

/-- R98, R100: in a blank buffer the touching sample stands alone in bin 0 of the ram channel, the deepest bin and the leading
one. -/
theorem binRam_at_touch {p : Profile} {T : Int} {cols : Nat} (value : Nat) (suspect : Bool) (ht : p.touch = some T)
    (hc : p.channels = List.replicate (cols + 1) []) (hd : p.deepest = none) (hl : p.leading = none) :
    (p.binRam T value suspect).1 = { p with
      deepest := some 0, leading := some 0
      channels := [(0, { value := value, empty := false, filled := false, suspect := suspect })]
        :: List.replicate cols [] } := by
  have hb : binOfDepth (T - T) = some 0 := by rw [Int.sub_self, binOfDepth_zero]
  rw [binRam_first value suspect ht hb hl]
  simp [Profile.binInto, Profile.onChannel, hc, hd, deepen, List.replicate_succ, binWrite, binRead, binSample, tabGet, tabPut,
    emptyBin]

/-! ## Touch taken (R90, R91) -/

/-- R137: two changes of the open record, of which the first leaves it open, are one. -/
theorem onOpenRecord_onOpenRecord {f g : Record → Record} (hg : ∀ r, (g r).state = r.state) (rs : List Record) :
    onOpenRecord f (onOpenRecord g rs) = onOpenRecord (fun r => f (g r)) rs := by
  simp only [onOpenRecord, List.map_map]
  refine List.map_congr_left fun r _ => ?_
  by_cases hopen : r.state = .opened <;> simp [hopen, hg]

/-- R90: the touch position and force written, the open record changed besides. -/
def touchWritten (T : Int) (value : Nat) (f : Record → Record) (s : State) : State :=
  { s with
    profile := { s.profile with touch := some T, touchForce := some value }
    store := { s.store with records := onOpenRecord (fun q => f { q with touch := some T }) s.store.records } }

section
variable {lo hi : Nat} {T : Int} {s : State} (value : Nat) (suspect : Bool)

/-- R91: touch outside the window. -/
theorem takeTouch_outside (h : ¬ ((lo : Int) ≤ T ∧ T ≤ hi)) :
    takeTouch lo hi T value suspect s = endStep .touchWindow T false (touchWritten T value id s) := if_neg h

/-- R90: touch inside the window, in a blank buffer. -/
theorem takeTouch_inside {r : Run} {cols : Nat} (h : (lo : Int) ≤ T ∧ T ≤ hi) (hrun : s.run = some r)
    (hc : s.profile.channels = List.replicate (cols + 1) []) (hd : s.profile.deepest = none)
    (hl : s.profile.leading = none) : takeTouch lo hi T value suspect s =
      endStep .touched T false { touchWritten T value
          (fun q => { q with columns := writeBases (touchBases s.head r.map) q.columns }) s with
        profile := { s.profile with
          touch := some T, touchForce := some value, bases := some (touchBases s.head r.map), binning := true
          deepest := some 0, leading := some 0
          channels := [(0, { value := value, empty := false, filled := false, suspect := suspect })]
            :: List.replicate cols [] } } := by
  have hmap : (s.run.map Run.map).getD [] = r.map := by rw [hrun]; rfl
  have hbinned := binRam_at_touch (p := { s.profile with
    touch := some T, touchForce := some value, bases := some (touchBases s.head r.map), binning := true })
    value suspect rfl hc hd hl
  have hrecords := onOpenRecord_onOpenRecord (g := fun q => { q with touch := some T })
    (f := fun q => { q with columns := writeBases (touchBases s.head r.map) q.columns }) (fun _ => rfl) s.store.records
  have htaken : takeTouch lo hi T value suspect s = endStep .touched T false { s with
      profile := ({ s.profile with
        touch := some T, touchForce := some value, bases := some (touchBases s.head ((s.run.map Run.map).getD []))
        binning := true }.binRam T value suspect).1
      store := { s.store with
        records := onOpenRecord
          (fun q => { q with columns := writeBases (touchBases s.head ((s.run.map Run.map).getD [])) q.columns })
          (onOpenRecord (fun q => { q with touch := some T }) s.store.records) } } := if_pos h
  rw [htaken, hmap, hbinned, hrecords]
  rfl

end

/-- Settles O47: the sample is taken, finds touch detection armed and its value at the threshold, and is the touch. -/
theorem touchEndsTheProbe : Obligations.TouchEndsTheProbe := by
  intro raw enc j r h rec limit speed lo hi cols s hj hr hh hbody hrec hc hl hd hb value hv suspect T bases h' r' taken touched
    records
  have hjob : taken.job = some { j with run := some r' } := ramSampled_job raw enc hj hr hh
  have hrun : s.run ≠ none := by simp [run_of_job hj hr]
  have hhand : taken.inHand = some h' := inHand_of_job hjob rfl rfl
  have harmed : armed taken = some (lo, hi) := by
    have hbody' : h'.record.body = .probe limit speed lo hi := hbody
    simp only [armed, hhand, hbody']
  have hthreshold : touchThreshold taken ≤ value := by
    rw [ramSampled_touchThreshold, touchThreshold, hrec]
    exact hv
  have hexec : exec (.ramSample raw enc) s = done (takeTouch lo hi T value suspect taken) := by
    rw [exec_ramSample_running raw enc hrun]
    exact congrArg done (useRamSample_touches T suspect harmed hthreshold)
  have hprobe : bodyKind h'.record.body = .probe := congrArg bodyKind hbody
  have hwritten (f : Record → Record) : touchWritten T value f taken = { touched with store := records f } := by
    simp only [touchWritten, onOpenRecord, taken, ramSampled_store]
    rfl
  refine ⟨fun hin => ?_, fun hout => ?_⟩
  · rw [hexec, takeTouch_inside value suspect hin (run_of_job hjob rfl) hc hd hl, hwritten]
    refine ⟨_, rfl, ?_⟩
    have hgoes := endStep_goes_on (r := r') (h := h') T false (s := { touched with
      store := records (fun q => { q with columns := q.columns.map (fun c => { c with base := bases[c.column - 1]? }) })
      profile := { touched.profile with
        bases := some bases, binning := true, deepest := some 0, leading := some 0
        channels := [(0, { value := value, empty := false, filled := false, suspect := suspect })]
          :: List.replicate cols [] } }) hjob rfl rfl
    rw [hprobe] at hgoes
    exact hgoes
  · rw [hexec, takeTouch_outside value suspect (by omega), hwritten]
    exact ⟨_, rfl, endStep_aborts _ _ _ hjob rfl rfl (by simp [hprobe, normalEnd]) nofun⟩

end Sys2Proof.Machine
end

section
/-! PROOFS. The ram sample in PRESSING: the ram cap, the knee and the overtravel depth, in that order (R95, R108, R109, R114 to
R116). -/

namespace Sys2Proof.Machine

/-! ## The knee test (R114) -/

/-- R114: a completed bin passes the knee test: it lies ten bins or more deep, its onset bin at or beyond the search start, and
its value has risen by the knee rise since there. -/
def KneePasses (p : Profile) (lim : Limits) (c : Completion) : Prop :=
  10 ≤ c.bin ∧ lim.searchStart ≤ 5 * (c.bin - 10)
    ∧ (binRead (p.channel 0) (c.bin - 10)).value + lim.kneeRise ≤ c.value

/-- R114: the knee test, as the search for the first bin that passes makes it. -/
def kneeTest (p : Profile) (lim : Limits) (c : Completion) : Bool :=
  decide (Config.kneeSpan ≤ c.bin) && decide (lim.searchStart ≤ Config.binDepth * (c.bin - Config.kneeSpan))
    && decide ((binRead (p.channel 0) (c.bin - Config.kneeSpan)).value + lim.kneeRise ≤ c.value)

section
variable {p : Profile} {lim : Limits}

theorem kneeTest_iff (c : Completion) : kneeTest p lim c = true ↔ KneePasses p lim c := by
  simp only [kneeTest, Bool.and_eq_true, decide_eq_true_eq, and_assoc]
  exact Iff.rfl

theorem kneeFind_eq (completed : List Completion) :
    kneeFind p lim completed = (completed.find? (kneeTest p lim)).map (fun c => c.bin - 10) := rfl

theorem kneeFind_of_first {pre post : List Completion} {c : Completion} (hpre : ∀ x ∈ pre, ¬ KneePasses p lim x)
    (hc : KneePasses p lim c) : kneeFind p lim (pre ++ c :: post) = some (c.bin - 10) := by
  have hfound : (pre ++ c :: post).find? (kneeTest p lim) = some c := by
    refine List.find?_eq_some_iff_append.2 ⟨(kneeTest_iff c).2 hc, pre, post, rfl, fun x hx => ?_⟩
    simpa [← kneeTest_iff] using hpre x hx
  rw [kneeFind_eq, hfound]
  rfl

theorem kneeFind_of_none {completed : List Completion} (h : ∀ x ∈ completed, ¬ KneePasses p lim x) :
    kneeFind p lim completed = none := by
  have hnone : completed.find? (kneeTest p lim) = none :=
    List.find?_eq_none.2 fun x hx => by simpa [kneeTest_iff] using h x hx
  rw [kneeFind_eq, hnone]
  rfl

end

/-! ## The end that a knee gives (R115) -/

section
variable {lim : Limits} {depth : Nat}

theorem kneeCause_early (h : depth < lim.bandLow) : kneeCause lim depth = .earlySeat := if_pos h

theorem kneeCause_seated (hlow : lim.bandLow ≤ depth) (hhigh : depth ≤ lim.bandHigh) : kneeCause lim depth = .seated :=
  (if_neg (Nat.not_lt.2 hlow)).trans (if_pos hhigh)

theorem kneeCause_beyond (hlow : lim.bandLow ≤ depth) (hhigh : lim.bandHigh < depth) : kneeCause lim depth = .overtravel :=
  (if_neg (Nat.not_lt.2 hlow)).trans (if_neg (Nat.not_le.2 hhigh))

end

/-- R114: the knee and its depth are noted by the monitor. -/
def kneeNoted (k : Nat) (s : State) : State :=
  { s with monitor := { s.monitor with knee := some k, seat := some (5 * k) } }

section
variable {s : State} {lim : Limits} {k : Nat} {c : EndCause} (position : Int)

/-- R115: a knee beyond the seat band gives the record no seat depth. -/
theorem takeKnee_beyond (h : kneeCause lim (5 * k) = .overtravel) :
    takeKnee lim k position s = endStep .overtravel position false (kneeNoted k s) := by
  have h' : kneeCause lim (Config.binDepth * k) = .overtravel := h
  simp only [takeKnee, h', if_true]
  rfl

/-- R115: any other knee gives the open record its seat depth. -/
theorem takeKnee_seats (h : kneeCause lim (5 * k) = c) (hc : c ≠ .overtravel) : takeKnee lim k position s =
    endStep c position false ((kneeNoted k s).onRecord (fun r => { r with seat := some (5 * k) })) := by
  have h' : kneeCause lim (Config.binDepth * k) = c := h
  simp only [takeKnee, h', if_neg hc]
  rfl

/-! ## The three tests in order (R109) -/

section
variable {cap value : Nat} {completed : List Completion} (hcap : s.monitor.ramCap = some cap)
  (hlim : s.monitor.limits = some lim)

include hcap hlim

/-- R108, R109: the ram cap. -/
theorem ramTests_over_cap (h : cap < value) :
    ramTests position value completed s = endStep .forceCap position false s := by
  simp only [ramTests, hcap, hlim, if_pos h]

/-- R109, R114: the knee. -/
theorem ramTests_knee (h : value ≤ cap) (hk : kneeFind s.profile lim completed = some k) :
    ramTests position value completed s = takeKnee lim k position s := by
  simp only [ramTests, hcap, hlim, if_neg (Nat.not_lt.2 h), hk]

/-- R109, R116: the overtravel depth. -/
theorem ramTests_depth {T : Int} (h : value ≤ cap) (hk : kneeFind s.profile lim completed = none)
    (ht : s.profile.touch = some T) : ramTests position value completed s =
      if (lim.overtravel : Int) ≤ position - T then endStep .overtravel position false s else s := by
  simp only [ramTests, hcap, hlim, if_neg (Nat.not_lt.2 h), hk, beyondOvertravel, ht, decide_eq_true_eq]

end

end

/-! ## The sample before the tests (R95) -/

/-- R95: a sample that no PROBE awaits is binned while binning is active; in PRESSING the ram tests follow. -/
theorem useRamSample_pressing {s : State} (position : Int) (value : Nat) (suspect : Bool) (ha : armed s = none)
    (hp : s.monitor.phase = .pressing) {out : Profile × List Completion}
    (hout : (if s.profile.binning then s.profile.binRam position value suspect else (s.profile, [])) = out) :
    useRamSample position value suspect s = ramTests position value out.2 { s with profile := out.1 } := by
  simp only [useRamSample, ha, if_pos hp, hout]

/-- Settles O50: the sample is taken and binned; the tests then end the PRESS step as any abort or normal end does. -/
theorem ramTestsEndThePress : Obligations.RamTestsEndThePress := by
  intro raw enc T j r h cap lim s hj hr hh hbody hp hcap hlim ht value position h' r' taken out fed ends passes
  have hjob : taken.job = some { j with run := some r' } := ramSampled_job raw enc hj hr hh
  have hpress : bodyKind h'.record.body = .press := hbody
  have hhand : taken.inHand = some h' := inHand_of_job hjob rfl rfl
  have harmed : armed taken = none := armed_of_no_probe fun i hi => by
    rw [hhand, Option.some.injEq] at hi
    rw [← hi, hpress]
    nofun
  have hexec : exec (.ramSample raw enc) s = done (ramTests position value out.2 fed) := by
    rw [exec_ramSample_running raw enc (by simp [run_of_job hj hr])]
    exact congrArg done (useRamSample_pressing position value _ harmed hp rfl)
  have htouch : fed.profile.touch = some T := by
    refine Eq.trans ?_ ht
    simp only [fed, out]
    split
    · exact binRam_touch _ _ _ _
    · rfl
  have haborts (c : EndCause) (v : State) (hv : v.job = taken.job) (hc : c ≠ .seated) (hd : c ≠ .driveFault)
      (he : ramTests position value out.2 fed = endStep c position false v) : ends c v := by
    refine ⟨_, endStep_aborts c position false (hv.trans hjob) rfl rfl (by rw [hpress]; exact hc) hd, ?_⟩
    rw [hexec, he]
    rfl
  refine ⟨fun hover => haborts .forceCap fed rfl nofun nofun (ramTests_over_cap position hcap hlim hover),
    fun hwithin pre c post hcompleted hpre hc => ?_, fun hwithin hnone => ?_⟩
  · have hknee := ramTests_knee (s := fed) (completed := out.2) (k := c.bin - 10) position hcap hlim hwithin (by
      rw [hcompleted]
      exact kneeFind_of_first hpre hc)
    intro depth found seated
    refine ⟨fun hearly => ?_, fun hlow hhigh => ?_, fun hlow hhigh => ?_⟩
    · exact haborts .earlySeat seated rfl nofun nofun
        (hknee.trans (takeKnee_seats position (kneeCause_early hearly) nofun))
    · have hgoes := endStep_goes_on (s := seated) (r := r') (h := h') position false hjob rfl rfl
      rw [hpress] at hgoes
      refine ⟨_, hgoes, ?_⟩
      rw [hexec, hknee, takeKnee_seats position (kneeCause_seated hlow hhigh) nofun]
      rfl
    · exact haborts .overtravel found rfl nofun nofun
        (hknee.trans (takeKnee_beyond position (kneeCause_beyond hlow hhigh)))
  · have hdepth := ramTests_depth (s := fed) (completed := out.2) position hcap hlim hwithin (kneeFind_of_none hnone) htouch
    refine ⟨fun hbeyond => haborts .overtravel fed rfl nofun nofun (hdepth.trans (if_pos hbeyond)), fun hshort => ?_⟩
    rw [hexec, hdepth, if_neg (by omega)]
    rfl

end Sys2Proof.Machine
end

section
/-! PROOFS. What a sample binned leaves to be read in the profile buffer, and the gap a deeper ram sample closes (R96 to R98,
R100). -/

namespace Sys2Proof.Machine

/-! ## A channel changed (R93) -/

section
variable {p : Profile} {ch c : Nat}

theorem channel_onChannel_self (f : Bins → Bins) (h : ch < p.channels.length) :
    (p.onChannel ch f).channel ch = f (p.channel ch) := by
  simp [Profile.onChannel, Profile.channel, List.getD_eq_getElem?_getD, h]

theorem channel_onChannel_other (f : Bins → Bins) (h : c ≠ ch) : (p.onChannel ch f).channel c = p.channel c := by
  simp [Profile.onChannel, Profile.channel, List.getD_eq_getElem?_getD, Ne.symm h]

/-! ## A sample in its bin (R97, R98) -/

variable {b i : Nat} (value : Nat) (suspect : Bool)

theorem read_binInto_self (h : ch < p.channels.length) : binRead ((p.binInto ch b value suspect).channel ch) b =
    binSample (binRead (p.channel ch) b) value suspect := by
  refine Eq.trans (congrArg (binRead · b) (channel_onChannel_self _ h)) ?_
  exact binRead_binWrite_self _ _ _

theorem read_binInto_other (h : ch < p.channels.length) (hi : c ≠ ch ∨ i ≠ b) :
    binRead ((p.binInto ch b value suspect).channel c) i = binRead (p.channel c) i := by
  by_cases hc : c = ch
  · subst hc
    refine Eq.trans (congrArg (binRead · i) (channel_onChannel_self _ h)) ?_
    exact binRead_binWrite_other _ _ _ (hi.resolve_left (not_not.2 rfl))
  · exact congrArg (binRead · i) (channel_onChannel_other _ hc)

end

/-! ## The gap closed (R100) -/

/-- R100: bins from `first` on, `n` of them, filled with a value, their suspect flags raised in a long gap. -/
def fillFrom (value : Nat) (long : Bool) (first n : Nat) (c : Bins) : Bins :=
  (List.range n).foldl (fun c i => binWrite c (first + i)
    { value := value, empty := false, filled := true, suspect := (binRead c (first + i)).suspect || long }) c

theorem fillGap_eq (value first n : Nat) (c : Bins) :
    fillGap value first n c = fillFrom value (decide (3 ≤ n)) first n c := rfl

theorem fillFrom_succ (value : Nat) (long : Bool) (first n : Nat) (c : Bins) :
    fillFrom value long first (n + 1) c = binWrite (fillFrom value long first n c) (first + n)
      { value := value, empty := false, filled := true
        suspect := (binRead (fillFrom value long first n c) (first + n)).suspect || long } := by
  simp [fillFrom, List.range_succ]

section
variable (value : Nat) (long : Bool) {first n i : Nat} (c : Bins)

theorem read_fillFrom_outside (hi : i < first ∨ first + n ≤ i) :
    binRead (fillFrom value long first n c) i = binRead c i := by
  induction n with
  | zero => rfl
  | succ n ih => rw [fillFrom_succ, binRead_binWrite_other _ _ _ (by omega), ih (by omega)]

theorem read_fillFrom_inside (hf : first ≤ i) (hi : i < first + n) : binRead (fillFrom value long first n c) i =
    { value := value, empty := false, filled := true, suspect := (binRead c i).suspect || long } := by
  induction n with
  | zero => omega
  | succ n ih =>
    rw [fillFrom_succ]
    by_cases hlast : i = first + n
    · rw [hlast, binRead_binWrite_self, read_fillFrom_outside value long c (.inr (Nat.le_refl _))]
    · rw [binRead_binWrite_other _ _ _ hlast, ih (by omega)]

end

/-! ## A ram sample deeper than the leading bin (R100) -/

section
variable {p : Profile} {l b i : Nat} (value : Nat) (suspect : Bool) (hch : p.channels ≠ [])

include hch

/-- R100: the ram channel with the gap closed, the sample not yet entered. -/
theorem channel_gapClosed : (p.onChannel 0 (fillGap (binRead (p.channel 0) l).value (l + 1) (b - l - 1))).channel 0 =
    fillFrom (binRead (p.channel 0) l).value (decide (3 ≤ b - l - 1)) (l + 1) (b - l - 1) (p.channel 0) :=
  (channel_onChannel_self _ (List.length_pos_of_ne_nil hch)).trans (fillGap_eq _ _ _ _)

theorem length_gapClosed :
    0 < (p.onChannel 0 (fillGap (binRead (p.channel 0) l).value (l + 1) (b - l - 1))).channels.length := by
  simpa [Profile.onChannel] using List.length_pos_of_ne_nil hch

theorem read_leadTo_other {c : Nat} (hlb : l < b) (hi : c ≠ 0 ∨ i ≤ l ∨ b < i) :
    binRead ((p.leadTo l b value suspect).channel c) i = binRead (p.channel c) i := by
  refine (read_binInto_other value suspect (length_gapClosed hch) (by omega)).trans ?_
  by_cases hc : c = 0
  · subst hc
    rw [channel_gapClosed hch, read_fillFrom_outside _ _ _ (by omega)]
  · rw [channel_onChannel_other _ hc]

section
variable (hblank : ∀ i, l < i → binRead (p.channel 0) i = emptyBin)

include hblank

/-- R100: a bin of the gap takes the leading bin's value. -/
theorem read_leadTo_gap (hl : l < i) (hb : i < b) : binRead ((p.leadTo l b value suspect).channel 0) i =
    { value := (binRead (p.channel 0) l).value, empty := false, filled := true, suspect := decide (3 ≤ b - l - 1) } := by
  refine (read_binInto_other value suspect (length_gapClosed hch) (.inr (Nat.ne_of_lt hb))).trans ?_
  rw [channel_gapClosed hch, read_fillFrom_inside _ _ _ hl (by omega), hblank i hl]
  rfl

/-- R97: the sample stands alone in its own bin. -/
theorem read_leadTo_self (hlb : l < b) : binRead ((p.leadTo l b value suspect).channel 0) b =
    { value := value, empty := false, filled := false, suspect := suspect } := by
  refine (read_binInto_self value suspect (length_gapClosed hch)).trans ?_
  rw [channel_gapClosed hch, read_fillFrom_outside _ _ _ (by omega), hblank b hlb]
  simp [binSample, emptyBin]

/-- R100: the report of a bin that the sample completes. -/
theorem completion_leadTo (hl : l ≤ i) (hb : i < b) : (p.leadTo l b value suspect).completion i =
    { bin := i, value := (binRead (p.channel 0) l).value
      suspect := if i = l then (binRead (p.channel 0) l).suspect else decide (3 ≤ b - l - 1) } := by
  unfold Profile.completion
  by_cases h : i = l
  · subst h
    rw [read_leadTo_other value suspect hch hb (.inr (.inl (Nat.le_refl _))), if_pos rfl]
  · rw [read_leadTo_gap value suspect hch hblank (by omega) hb, if_neg h]

end

end

/-- Settles O48: the bin of the depth decides; a deeper ram sample closes the gap before it enters its bin. -/
theorem samplesAreBinned : Obligations.SamplesAreBinned := by
  refine ⟨fun p ch value position T suspect ht hch => ⟨fun hspan => ?_, fun hout => ?_⟩,
    fun p value b position T suspect ht hb hlow hhigh => ?_,
    fun p value position T suspect ht hout => binRam_outside value suspect ht (binOfDepth_outside hout)⟩
  · intro b old q
    have hb : binOfDepth (position - T) = some b := by
      rw [binOfDepth_of_span hspan.1 (by omega)]
      simp only [b, Option.some.injEq]
      omega
    have hq : q = p.binInto ch b value suspect := bin_of_depth value suspect ht hb
    rw [hq]
    exact ⟨read_binInto_self value suspect hch, fun c i hi => read_binInto_other value suspect hch hi, rfl, rfl⟩
  · exact bin_outside value suspect ht (binOfDepth_outside hout)
  · intro out
    have hbin : binOfDepth (position - T) = some b := by
      rw [binOfDepth_of_span (by omega) (by omega), Option.some.injEq]
      omega
    have hinto : p.bin 0 position value suspect = p.binInto 0 b value suspect := bin_of_depth value suspect ht hbin
    rw [hinto]
    refine ⟨binRam_first value suspect ht hbin, fun L hl h => binRam_shallow value suspect ht hbin hl h,
      fun L hl h hch hblank => ?_⟩
    intro held
    have hout : out = _ := binRam_deeper value suspect ht hbin hl h
    rw [hout]
    refine ⟨fun i => read_leadTo_gap value suspect hch hblank, read_leadTo_self value suspect hch hblank h,
      fun c i => read_leadTo_other value suspect hch h, rfl, rfl, List.map_congr_left fun i hi => ?_⟩
    obtain ⟨hli, hib⟩ := List.mem_range'_1.1 hi
    exact completion_leadTo value suspect hch hblank hli (by omega)

end Sys2Proof.Machine
end

section
/-! PROOFS. The end treatment: the profile as the program ends, and what a treated channel reads as, bin by bin (R101, R102). -/

namespace Sys2Proof.Machine

/-! ## The profile closed (R101, R102) -/

section
variable {p : Profile}

theorem close_of_shallow (hd : p.deepest = none) : p.close = { p with binning := false, complete := true } := by
  simp only [Profile.close, hd]

theorem close_of_deep {D : Nat} (hd : p.deepest = some D) : p.close = { p with
    binning := false, complete := true
    channels := p.channels.zipIdx.map (fun (c, ch) => treatChannel (p.base ch) D c) } := by
  simp only [Profile.close, hd]
  rfl

theorem close_channel {D ch : Nat} {c : Bins} (hd : p.deepest = some D) (hc : p.channels[ch]? = some c) :
    p.close.channels[ch]? = some (treatChannel (p.base ch) D c) := by
  simp [close_of_deep hd, hc]

/-- R101: the base value of a column that has a touch base. -/
theorem base_of_column {bases : List FingerSample} {i : Nat} {base : FingerSample} (hb : p.bases = some bases)
    (hi : bases[i]? = some base) : p.base (i + 1) = base := by
  simp [Profile.base, hb, List.getD_eq_getElem?_getD, hi]

end

/-! ## Reading a table made of parts (R93) -/

section
variable {α : Type} {k : Nat}

theorem tabGet_append (t u : List (Nat × α)) (k : Nat) : tabGet (t ++ u) k = (tabGet t k).or (tabGet u k) := by
  induction t with
  | nil => rfl
  | cons e t ih =>
    simp only [List.cons_append, tabGet, ih]
    split <;> rfl

theorem tabGet_of_absent {t : List (Nat × α)} (h : ∀ e ∈ t, e.1 ≠ k) : tabGet t k = none :=
  Option.eq_none_iff_forall_ne_some.2 fun _ hv => h _ (mem_of_tabGet hv) rfl

/-- The entries of some keys are read as before. -/
theorem tabGet_filter_key (t : List (Nat × α)) {keep : Nat → Bool} (hk : keep k = true) :
    tabGet (t.filter (fun e => keep e.1)) k = tabGet t k := by
  induction t with
  | nil => rfl
  | cons e t ih =>
    by_cases he : k = e.1
    · simp [← he, hk, tabGet]
    · by_cases hkeep : keep e.1 = true <;> simp [hkeep, tabGet, he, ih]

theorem binRead_cons (k : Nat) (v : Bin) (c : Bins) (b : Nat) :
    binRead ((k, v) :: c) b = if b = k then v else binRead c b := by
  simp only [binRead, tabGet]
  split <;> rfl

end

/-! ## The treatment of a row of bins (R101) -/

/-- R101: a bin treated, with the value of the nearest lower bin and whether its run of empty bins is a long one. -/
def treatBin (last : Nat) (long : Bool) (b : Bin) : Bin :=
  if b.empty then { value := last, empty := false, filled := true, suspect := b.suspect || long } else b

section
variable {last : Nat} {long : Bool} {b : Bin}

theorem treatBin_full (h : b.empty = false) : treatBin last long b = b := by simp [treatBin, h]

theorem treatBin_empty (h : b.empty = true) : treatBin last long b =
    { value := last, empty := false, filled := true, suspect := b.suspect || long } := if_pos h

@[simp] theorem treatBin_nonempty : (treatBin last long b).empty = false := by
  unfold treatBin
  split
  · rfl
  · next h => simpa using h

end

/-- R101: `n` bins from bin `k` on, treated with `run` empty bins passed and the value `last` below them. -/
def treatedFrom (run last k n : Nat) (f : Nat → Bin) : Bins :=
  (List.range' k n).zip (treatBins run last ((List.range' k n).map f))

section
variable {run last k n b : Nat} {f : Nat → Bin}

/-- R101: the first bin treated leaves its own value to the next, and a run of empty bins that it lengthens or ends. -/
theorem treatedFrom_succ : treatedFrom run last k (n + 1) f =
    let first := treatBin last (decide (2 < run + 1 + leadingEmpty ((List.range' (k + 1) n).map f))) (f k)
    (k, first) :: treatedFrom (if (f k).empty then run + 1 else 0) first.value (k + 1) n f := by
  simp only [treatedFrom, List.range'_succ, List.map_cons, treatBins]
  cases h : (f k).empty
  · simp [treatBin_full h]
  · simp [treatBin_empty h]

/-- R101: each bin is treated with the value of the one before it, the first with the value given. -/
theorem read_treatedFrom (hk : k ≤ b) (hb : b < k + n) : ∃ long, binRead (treatedFrom run last k n f) b =
    treatBin (if b = k then last else (binRead (treatedFrom run last k n f) (b - 1)).value) long (f b) := by
  induction n generalizing run last k with
  | zero => omega
  | succ n ih =>
    rw [treatedFrom_succ]
    by_cases hfirst : b = k
    · subst hfirst
      exact ⟨_, by rw [binRead_cons, if_pos rfl, if_pos rfl]⟩
    · obtain ⟨long, hread⟩ := ih (run := if (f k).empty then run + 1 else 0)
        (last := (treatBin last (decide (2 < run + 1 + leadingEmpty ((List.range' (k + 1) n).map f))) (f k)).value)
        (k := k + 1) (by omega) (by omega)
      refine ⟨long, ?_⟩
      simp only [binRead_cons, if_neg hfirst, hread]
      by_cases hsecond : b = k + 1
      · simp [hsecond]
      · have hthird : ¬ b - 1 = k := by omega
        simp only [if_neg hsecond, if_neg hthird]

/-- R101: the length of a run of empty bins at the front of a row. -/
theorem leadingEmpty_eq {m : Nat} (hm : m ≤ n) (hempty : ∀ i, k ≤ i → i < k + m → (f i).empty = true)
    (hend : m = n ∨ (f (k + m)).empty = false) : leadingEmpty ((List.range' k n).map f) = m := by
  induction n generalizing k m with
  | zero =>
    have : m = 0 := by omega
    subst this
    rfl
  | succ n ih =>
    simp only [List.range'_succ, List.map_cons, leadingEmpty]
    cases m with
    | zero =>
      have hfirst : (f k).empty = false := by simpa using hend
      simp [hfirst]
    | succ m =>
      rw [if_pos (hempty k (Nat.le_refl k) (by omega))]
      rw [ih (k := k + 1) (m := m) (by omega) (fun i h1 h2 => hempty i (by omega) (by omega))
        (hend.imp (by omega) fun h => by rwa [Nat.add_right_comm])]

/-- R101: the suspect flag of a bin in a run of empty bins from `lo` to `hi`, which the `run` bins passed lengthen where it
begins with the row. -/
theorem suspect_treatedFrom {lo hi : Nat} (hk : k ≤ lo) (hlo : lo ≤ b) (hhi : b ≤ hi) (hn : hi < k + n)
    (hempty : ∀ i, lo ≤ i → i ≤ hi → (f i).empty = true) (hbelow : lo = k ∨ (f (lo - 1)).empty = false)
    (habove : hi + 1 = k + n ∨ (f (hi + 1)).empty = false) : (binRead (treatedFrom run last k n f) b).suspect =
      ((f b).suspect || decide (2 < (if lo = k then run else 0) + (hi + 1 - lo))) := by
  induction n generalizing run last k lo with
  | zero => omega
  | succ n ih =>
    have hend : hi + 1 = k + 1 + n ∨ (f (hi + 1)).empty = false := habove.imp_left (by omega)
    rw [treatedFrom_succ, binRead_cons]
    by_cases hfirst : b = k
    · have hstart : lo = k := by omega
      subst hfirst hstart
      have hlength : leadingEmpty ((List.range' (lo + 1) n).map f) = hi - lo := by
        refine leadingEmpty_eq (by omega) (fun i h1 h2 => hempty i (by omega) (by omega)) (habove.imp (by omega) fun h => ?_)
        rwa [show lo + 1 + (hi - lo) = hi + 1 by omega]
      rw [if_pos rfl, if_pos rfl, treatBin_empty (hempty lo (Nat.le_refl lo) hhi), hlength,
        show run + 1 + (hi - lo) = run + (hi + 1 - lo) by omega]
    · rw [if_neg hfirst]
      by_cases hstart : lo = k
      · subst hstart
        rw [ih (lo := lo + 1) (Nat.le_refl _) (by omega) (by omega) (fun i h1 h2 => hempty i (by omega) h2) (.inl rfl)
          hend, if_pos rfl, if_pos (hempty lo (Nat.le_refl lo) (by omega)), if_pos rfl,
          show run + 1 + (hi + 1 - (lo + 1)) = run + (hi + 1 - lo) by omega]
      · have hrun : (if lo = k + 1 then (if (f k).empty then run + 1 else 0) else 0) = 0 := by
          by_cases hnext : lo = k + 1
          · have hfull := hbelow.resolve_left hstart
            simp only [hnext, Nat.add_sub_cancel] at hfull
            simp [hfull]
          · exact if_neg hnext
        rw [ih (by omega) hlo (by omega) hempty (.inr (hbelow.resolve_left hstart)) hend, hrun, if_neg hstart]

end

/-! ## A treated channel (R101) -/

/-- R101, step 2: a bin with its suspect flag raised where a flag is set. -/
def Bin.raiseSuspect (flag : Bool) (b : Bin) : Bin := { b with suspect := b.suspect || flag }

theorem raiseSuspect_false (b : Bin) : b.raiseSuspect false = b := by simp [Bin.raiseSuspect]

/-- R101, step 2: of a row of bins the first alone is marked. -/
theorem read_markFirst {ts : List Bin} (n : Nat) (wasEmpty baseSuspect : Bool) (hts : ts ≠ []) (b : Nat) :
    binRead ((List.range' 0 (n + 1)).zip (markFirst wasEmpty baseSuspect ts)) b =
      (binRead ((List.range' 0 (n + 1)).zip ts) b).raiseSuspect (decide (b = 0) && (wasEmpty && baseSuspect)) := by
  cases ts with
  | nil => exact absurd rfl hts
  | cons t ts =>
    simp only [List.range'_succ, markFirst, List.zip_cons_cons, binRead_cons]
    by_cases hb : b = 0
    · simp [hb, Bin.raiseSuspect]
    · simp [hb, raiseSuspect_false]

section
variable {base : FingerSample} {D b : Nat} {c : Bins}

/-- R101: a bin down to the deepest reads as treated, bin 0 marked with the base. -/
theorem read_treatChannel (hb : b ≤ D) : binRead (treatChannel base D c) b =
    (binRead (treatedFrom 0 base.value 0 (D + 1) (binRead c)) b).raiseSuspect
      (decide (b = 0) && ((binRead c 0).empty && base.suspect)) := by
  have hdeep : tabGet (c.filter (fun e => decide (D < e.1))) b = none :=
    tabGet_of_absent fun e he => by
      have := of_decide_eq_true (List.mem_filter.1 he).2
      omega
  have hsome : treatBins 0 base.value ((List.range' 0 (D + 1)).map (binRead c)) ≠ [] := by
    rw [← List.length_pos_iff, treatBins_length]
    simp
  rw [treatedFrom, ← read_markFirst D _ _ hsome, binRead, treatChannel, tabGet_append, hdeep, Option.or_none,
    List.range_eq_range']
  rfl

/-- R101: a bin deeper than the deepest is not treated. -/
theorem read_treatChannel_deeper (hb : D < b) : binRead (treatChannel base D c) b = binRead c b := by
  have hshallow (ts : List Bin) : tabGet ((List.range (D + 1)).zip ts) b = none :=
    tabGet_of_absent fun e he => by
      have := List.mem_range.1 (List.of_mem_zip he).1
      omega
  rw [binRead, treatChannel, tabGet_append, hshallow, Option.none_or,
    tabGet_filter_key c (keep := fun k => decide (D < k)) (decide_eq_true hb)]
  rfl

/-- R101: each bin of a treated channel is treated with the value of the one before it, bin 0 with the base value. -/
theorem read_treatChannel_bin (hb : b ≤ D) : ∃ long, binRead (treatChannel base D c) b =
    (treatBin (if b = 0 then base.value else (binRead (treatChannel base D c) (b - 1)).value) long (binRead c b)).raiseSuspect
      (decide (b = 0) && ((binRead c 0).empty && base.suspect)) := by
  obtain ⟨long, hread⟩ := read_treatedFrom (run := 0) (last := base.value) (f := binRead c) (Nat.zero_le b)
    (show b < 0 + (D + 1) by omega)
  refine ⟨long, ?_⟩
  rw [read_treatChannel hb, hread, read_treatChannel (b := b - 1) (by omega)]
  rfl

/-- R101: a bin that held a value keeps it, with its flags. -/
theorem read_treatChannel_full (hb : b ≤ D) (hfull : (binRead c b).empty = false) :
    binRead (treatChannel base D c) b = binRead c b := by
  obtain ⟨long, hread⟩ := read_treatChannel_bin (base := base) (c := c) hb
  have hflag : (decide (b = 0) && ((binRead c 0).empty && base.suspect)) = false := by
    by_cases h : b = 0
    · subst h
      simp [hfull]
    · simp [h]
  rw [hread, hflag, raiseSuspect_false, treatBin_full hfull]

theorem read_treatChannel_nonempty (hb : b ≤ D) : (binRead (treatChannel base D c) b).empty = false := by
  obtain ⟨long, hread⟩ := read_treatChannel_bin (base := base) (c := c) hb
  rw [hread]
  exact treatBin_nonempty

/-- R101: an empty bin is filled with the value of the nearest lower bin. -/
theorem read_treatChannel_empty (hb : b ≤ D) (hempty : (binRead c b).empty = true) :
    (binRead (treatChannel base D c) b).filled = true ∧ (binRead (treatChannel base D c) b).value =
      if b = 0 then base.value else (binRead (treatChannel base D c) (b - 1)).value := by
  obtain ⟨long, hread⟩ := read_treatChannel_bin (base := base) (c := c) hb
  rw [treatBin_empty hempty] at hread
  exact ⟨congrArg Bin.filled hread, congrArg Bin.value hread⟩

/-- R101: the suspect flag of a bin that was empty. -/
theorem suspect_treatChannel {lo hi : Nat} (hlo : lo ≤ b) (hhi : b ≤ hi) (hD : hi ≤ D)
    (hempty : ∀ i, lo ≤ i → i ≤ hi → (binRead c i).empty = true)
    (hbelow : lo = 0 ∨ (binRead c (lo - 1)).empty = false) (habove : hi = D ∨ (binRead c (hi + 1)).empty = false) :
    (binRead (treatChannel base D c) b).suspect =
      ((binRead c b).suspect || decide (2 < hi + 1 - lo) || (decide (b = 0) && base.suspect)) := by
  have htreated := suspect_treatedFrom (run := 0) (last := base.value) (k := 0) (n := D + 1) (f := binRead c)
    (Nat.zero_le lo) hlo hhi (by omega) hempty hbelow (habove.imp_left (by omega))
  have hflag : (decide (b = 0) && ((binRead c 0).empty && base.suspect)) = (decide (b = 0) && base.suspect) := by
    by_cases h : b = 0
    · subst h
      simp [hempty 0 hlo hhi]
    · simp [h]
  rw [read_treatChannel (by omega), hflag, Bin.raiseSuspect, htreated, ite_self, Nat.zero_add]

end

/-- Settles O49: the close of the profile, channel by channel, then the treatment of a channel, bin by bin. -/
theorem endTreatmentFillsTheChannel : Obligations.EndTreatmentFillsTheChannel := by
  refine ⟨fun p => ?_, fun base D c => ?_, fun base D b lo hi c => suspect_treatChannel⟩
  · intro stopped
    refine ⟨close_of_shallow, fun D hd =>
      ⟨?_, ?_, fun c => close_channel hd, fun bases i c hb _ hc base hbase => ?_⟩⟩
    · rw [close_of_deep hd]
    · simp [close_of_deep hd]
    · rw [close_channel hd hc, base_of_column hb hbase]
  · intro t
    exact ⟨fun b => read_treatChannel_full, fun b => read_treatChannel_nonempty, fun b => read_treatChannel_empty,
      fun b => read_treatChannel_deeper⟩

end Sys2Proof.Machine
end

section
/-! PROOFS. The reads of the result store, and PROFILE READ (R103, R104, R145 to R148). -/

namespace Sys2Proof.Machine

/-! ## What an admitted read is -/

section
variable {h : Header} {s : State}

theorem exec_resultSummary_of_admitted {press first : Nat} (ha : admitted h (.resultSummary press first) s = true) :
    exec (.resultSummary h press first) s = done (serveResultSummary h.link h.tag press first (heard h s)) :=
  exec_of_admitted rfl ha

theorem exec_resultColumn_of_admitted {press column : Nat} (ha : admitted h (.resultColumn press column) s = true) :
    exec (.resultColumn h press column) s = done (serveResultColumn h.link h.tag press column (heard h s)) :=
  exec_of_admitted rfl ha

theorem exec_resultPins_of_admitted {press column : Nat} (ha : admitted h (.resultPins press column) s = true) :
    exec (.resultPins h press column) s = done (serveResultPins h.link h.tag press column (heard h s)) :=
  exec_of_admitted rfl ha

theorem exec_profileRead_of_admitted {ch first n : Nat} (ha : admitted h (.profileRead ch first n) s = true) :
    exec (.profileRead h ch first n) s = done (serveProfileRead h.link h.tag ch first n (heard h s)) :=
  exec_of_admitted rfl ha

/-- R137: a frame heard leaves the records. -/
@[simp] theorem heard_record (h : Header) (s : State) (press : Nat) : (heard h s).record press = s.record press := by
  simp only [State.record, heard_store]

end

section
variable {l : Link} {tag press first column : Nat} {s : State} {r : Record}

/-! ## RESULT SUMMARY (R145, R146) -/

theorem serveResultSummary_directory :
    serveResultSummary l tag 0 first s = s.reply l tag .ok (directoryWire s.store) := rfl

theorem serveResultSummary_badField (hp : press ≠ 0) (hf : 15 < first) :
    serveResultSummary l tag press first s = s.refuse l tag .badField := by
  simp [serveResultSummary, hp, hf]

theorem serveResultSummary_notFound (hp : press ≠ 0) (hf : first ≤ 15) (hr : s.record press = none) :
    serveResultSummary l tag press first s = s.refuse l tag .notFound := by
  simp [serveResultSummary, hp, hf, hr]

theorem serveResultSummary_record (hp : press ≠ 0) (hf : first ≤ 15) (hr : s.record press = some r) :
    serveResultSummary l tag press first s = s.reply l tag .ok (summaryWire r first) := by
  simp [serveResultSummary, hp, hf, hr]

/-- R146: the tally, absent while the record is OPEN. -/
theorem tallyWire_eq (r : Record) : tallyWire r =
    if r.state = .opened then .flag false :: List.replicate 7 (.u16 0)
    else [.flag true, .u16 (tally r.pins .pass), .u16 (tally r.pins .lowEntry), .u16 (tally r.pins .highEntry),
      .u16 (tally r.pins .holdLow), .u16 (tally r.pins .holdHigh), .u16 (tally r.pins .suspect),
      .u16 (tally r.pins .unjudged)] := by
  unfold tallyWire
  split <;> rfl

/-! ## RESULT COLUMN and RESULT PINS (R147, R148) -/

theorem columnCheck_badPress (h : press = 0 ∨ 65535 < press) : columnCheck press column s = .inl .badField := if_pos h

section
variable (h1 : 1 ≤ press) (hm : press ≤ 65535)

include h1 hm

theorem columnCheck_notFound (hr : s.record press = none) : columnCheck press column s = .inl .notFound := by
  have hp : ¬ (press = 0 ∨ Config.maxPress < press) := by simp only [Config.maxPress]; omega
  simp only [columnCheck, if_neg hp, hr]

theorem columnCheck_record (hr : s.record press = some r) : columnCheck press column s =
    if 1 ≤ column ∧ column ≤ r.copy.entry.cols then .inr r else .inl .badField := by
  have hp : ¬ (press = 0 ∨ Config.maxPress < press) := by simp only [Config.maxPress]; omega
  simp only [columnCheck, if_neg hp, hr, between_iff]

end

theorem serveResultColumn_refused {st : Status} (hc : columnCheck press column s = .inl st) :
    serveResultColumn l tag press column s = s.refuse l tag st := by
  simp only [serveResultColumn, hc]

theorem serveResultColumn_found {c : ColumnResult} (hc : columnCheck press column s = .inr r)
    (hf : r.columns.find? (fun c => decide (c.column = column)) = some c) :
    serveResultColumn l tag press column s = s.reply l tag .ok (columnWire r.copy.entry c) := by
  simp only [serveResultColumn, hc, hf]

theorem serveResultPins_refused {st : Status} (hc : columnCheck press column s = .inl st) :
    serveResultPins l tag press column s = s.refuse l tag st := by
  simp only [serveResultPins, hc]

theorem serveResultPins_found (hc : columnCheck press column s = .inr r) :
    serveResultPins l tag press column s = s.reply l tag .ok (pinsWire r column) := by
  simp only [serveResultPins, hc]

/-- R148: the pin entries of a column, each ranked by the row it names. -/
theorem flatMap_pinWire (r : Record) (column : Nat) : (pinsOf r column).flatMap (pinWire r.copy.entry) =
    (pinsOf r column).flatMap (fun q => [.u8 q.row,
      .u8 ((((columnRows r.copy.entry column).find? (fun x => decide (x.1 = q.row))).map (·.2.rank)).getD 0),
      .u8 (verdictCode q.verdict)]) := by
  refine List.flatMap_congr fun q hq => ?_
  have hcolumn : q.column = column := by
    unfold pinsOf at hq
    split at hq
    · cases hq
    · exact of_decide_eq_true (List.mem_filter.1 hq).2
  rw [← hcolumn]
  rfl

end

/-! ## PROFILE READ (R103, R104) -/

section
variable {l : Link} {tag ch first n : Nat} {s : State}

theorem serveProfileRead_busy (hr : s.run ≠ none) : serveProfileRead l tag ch first n s = s.refuse l tag .busy :=
  if_pos (Option.isSome_iff_ne_none.2 hr)

/-- R103: with no job RUNNING and the profile complete, a read of bins that fit is answered. -/
theorem serveProfileRead_idle (hr : s.run = none) : serveProfileRead l tag ch first n s =
    if s.profile.complete = false then s.refuse l tag .notFound
    else if ch ≤ s.profile.cols.getD 0 ∧ 1 ≤ n ∧ n ≤ 100 ∧ first + n ≤ 800 then
      s.reply l tag .ok (profileWire s.profile ch first n)
    else s.refuse l tag .badField := by
  have hfits : (decide (ch ≤ s.profile.cols.getD 0) && between 1 100 n && decide (first + n ≤ 800)) = true
      ↔ ch ≤ s.profile.cols.getD 0 ∧ 1 ≤ n ∧ n ≤ 100 ∧ first + n ≤ 800 := by
    simp only [Bool.and_eq_true, decide_eq_true_eq, between_iff, and_assoc]
  simp only [serveProfileRead, State.jobRunning, hr, Option.isSome_none, Bool.false_eq_true, if_false, Bool.not_eq_true',
    ← hfits, ← Bool.not_eq_true, ite_not]

end

/-- Settles O55: each read is answered by its checks in order, from the store or the profile as it stands. -/
theorem storeAndProfileReadsAnswer : Obligations.StoreAndProfileReadsAnswer := by
  refine ⟨fun h press first column s => ?_, fun h ch first n s ha => ?_⟩
  · intro found
    have hfound : (heard h s).record press = found := heard_record h s press
    refine ⟨fun ha => ?_, fun ha => ?_, fun ha => ?_⟩
    · rw [exec_resultSummary_of_admitted ha]
      refine ⟨fun hp => ?_, fun hp hf => ?_, fun hp hf hn => ?_, fun hp hf r hr => ?_⟩
      · rw [hp, serveResultSummary_directory, heard_store]
        rfl
      · rw [serveResultSummary_badField hp hf]
        rfl
      · rw [serveResultSummary_notFound hp hf (hfound.trans hn)]
        rfl
      · rw [serveResultSummary_record hp hf (hfound.trans hr)]
        simp only [summaryWire, headerWire, tallyWire_eq, dispositionWire, List.append_assoc, List.cons_append, List.nil_append]
        rfl
    · rw [exec_resultColumn_of_admitted ha]
      refine ⟨fun hp => ?_, fun h1 hm hn => ?_, fun h1 hm r hr => ?_⟩
      · rw [serveResultColumn_refused (columnCheck_badPress hp)]
        rfl
      · rw [serveResultColumn_refused (columnCheck_notFound h1 hm (hfound.trans hn))]
        rfl
      · have hcheck := columnCheck_record (column := column) h1 hm (hfound.trans hr)
        refine ⟨fun hout => ?_, fun hc1 hcm c hc => ?_⟩
        · rw [serveResultColumn_refused (hcheck.trans (if_neg (by omega)))]
          rfl
        · have hcolumn : c.column = column := by simpa using List.find?_some hc
          rw [serveResultColumn_found (hcheck.trans (if_pos ⟨hc1, hcm⟩)) hc, columnWire, hcolumn, sampleWire]
          simp only [List.append_assoc, List.cons_append, List.nil_append]
          rfl
    · rw [exec_resultPins_of_admitted ha]
      refine ⟨fun hp => ?_, fun h1 hm hn => ?_, fun h1 hm r hr => ?_⟩
      · rw [serveResultPins_refused (columnCheck_badPress hp)]
        rfl
      · rw [serveResultPins_refused (columnCheck_notFound h1 hm (hfound.trans hn))]
        rfl
      · have hcheck := columnCheck_record (column := column) h1 hm (hfound.trans hr)
        refine ⟨fun hout => ?_, fun hc1 hcm => ?_⟩
        · rw [serveResultPins_refused (hcheck.trans (if_neg (by omega)))]
          rfl
        · rw [serveResultPins_found (hcheck.trans (if_pos ⟨hc1, hcm⟩)), pinsWire, flatMap_pinWire]
          rfl
  · rw [exec_profileRead_of_admitted ha]
    intro fits channel
    have hrun : (heard h s).run = s.run := heard_run h s
    refine ⟨fun hr => ?_, fun hr hc => ?_, fun hr hc hn => ?_, fun hr hc hf => ?_⟩
    · rw [serveProfileRead_busy (hrun ▸ hr)]
      rfl
    · rw [serveProfileRead_idle (hrun.trans hr), heard_profile, if_pos hc]
      rfl
    · rw [serveProfileRead_idle (hrun.trans hr), heard_profile, hc, if_neg nofun, if_neg hn]
      rfl
    · rw [serveProfileRead_idle (hrun.trans hr), heard_profile, hc, if_neg nofun, if_pos hf, profileWire]
      simp only [List.append_assoc, List.cons_append, List.nil_append]
      rfl

end Sys2Proof.Machine
end

section
/-! PROOFS. The press verdict by its orders, the pin verdicts by column and row, and the share rounded half up (R121, R128, R132
to R134). -/

namespace Sys2Proof.Machine

/-! ## The press standing (R121) -/

/-- R121: SEATED stands for a PRESS step that ended SEATED. -/
theorem standing_eq_seated {outcomes : List StepOutcome} :
    standing outcomes = .seated ↔ pressCause outcomes = some .seated := by
  unfold standing
  split <;> simp_all

/-- R121: NOT_PRESSED stands where no PRESS step ran. -/
theorem standing_eq_notPressed {outcomes : List StepOutcome} :
    standing outcomes = .notPressed ↔ pressCause outcomes = none := by
  unfold standing
  split <;> simp_all

/-! ## The pins of a column, each with its row (R11) -/

/-- R11: a pin of a column with its row is the cell at that row. -/
theorem mem_columnRows {e : TypeEntry} {j i : Nat} {pin : PinCell} :
    (i, pin) ∈ columnRows e j ↔ 1 ≤ i ∧ (columnCells e j)[i - 1]? = some (some pin) := by
  simp only [columnRows, List.mem_filterMap, Prod.exists, List.mem_zipIdx_iff_getElem?]
  constructor
  · rintro ⟨cell, n, hn, hcell⟩
    obtain ⟨pin', rfl, heq⟩ := Option.map_eq_some_iff.1 hcell
    cases heq
    exact ⟨by omega, hn⟩
  · rintro ⟨hi, hcell⟩
    refine ⟨some pin, i - 1, hcell, ?_⟩
    simp only [Option.map_some, Option.some.injEq, Prod.mk.injEq, and_true]
    omega

/-- R11: a row of a column holds one pin. -/
theorem columnRows_pin_unique {e : TypeEntry} {j i : Nat} {a b : PinCell} (ha : (i, a) ∈ columnRows e j)
    (hb : (i, b) ∈ columnRows e j) : a = b := by
  have h := (mem_columnRows.1 ha).2.symm.trans (mem_columnRows.1 hb).2
  simpa using h

/-- R11: the rows of a column hold the column's pins, in order. -/
theorem columnRows_map_snd (e : TypeEntry) (j : Nat) : (columnRows e j).map (·.2) = columnPins e j := by
  have hcells : (columnCells e j).zipIdx.map Prod.fst = columnCells e j := List.zipIdx_map_fst 0 _
  calc (columnRows e j).map (·.2)
      = (columnCells e j).zipIdx.filterMap (id ∘ Prod.fst) := by
        rw [columnRows, List.map_filterMap]
        refine List.filterMap_congr fun x _ => ?_
        cases hx : x.1 <;> simp [hx]
    _ = columnPins e j := by rw [← List.filterMap_map, hcells, columnPins]

/-- R11: a pin in a row of a column is one of the column's pins. -/
theorem mem_columnPins_of_mem_columnRows {e : TypeEntry} {j i : Nat} {pin : PinCell} (h : (i, pin) ∈ columnRows e j) :
    pin ∈ columnPins e j :=
  columnRows_map_snd e j ▸ List.mem_map_of_mem h

/-! ## The share (R128) -/

/-- R128: the share is the quotient of the step force by the pin count, rounded half up. -/
theorem shareOf_bounds (step : Nat) {n : Nat} (hn : 0 < n) :
    2 * n * shareOf step n ≤ 2 * step + n ∧ 2 * step + n < 2 * n * (shareOf step n + 1) :=
  ⟨Nat.mul_div_le _ _, Nat.lt_mul_div_succ _ (by omega)⟩

/-! ## The press verdict (R134) -/

/-- R134: what rejects a press: the end of its PRESS step, or the verdict of a pin. -/
def Rejects (outcomes : List StepOutcome) (pins : List PinResult) : Prop :=
  pressCause outcomes = some .earlySeat ∨ pressCause outcomes = some .overtravel ∨ pressCause outcomes = some .forceCap
    ∨ ∃ q ∈ pins, q.verdict = .lowEntry ∨ q.verdict = .highEntry ∨ q.verdict = .holdLow ∨ q.verdict = .holdHigh

theorem failing_iff {v : Verdict} : failing v = true ↔ v = .lowEntry ∨ v = .highEntry ∨ v = .holdLow ∨ v = .holdHigh := by
  cases v <;> decide

theorem rejectingEnd_iff {c : Option EndCause} :
    rejectingEnd c = true ↔ c = some .earlySeat ∨ c = some .overtravel ∨ c = some .forceCap := by
  unfold rejectingEnd
  split <;> simp_all

theorem rejects_iff {outcomes : List StepOutcome} {pins : List PinResult} :
    (rejectingEnd (pressCause outcomes) || pins.any (fun q => failing q.verdict)) = true ↔ Rejects outcomes pins := by
  simp only [Bool.or_eq_true, rejectingEnd_iff, List.any_eq_true, failing_iff, Rejects, or_assoc]

section
variable {outcomes : List StepOutcome} {pins : List PinResult}

/-- R134, order 1. -/
theorem pressVerdict_reject (h : Rejects outcomes pins) : pressVerdict outcomes pins = .reject :=
  if_pos (rejects_iff.2 h)

/-- R134, order 2. -/
theorem pressVerdict_incomplete (h : ¬ Rejects outcomes pins) (hpressed : pressCause outcomes ≠ some .seated) :
    pressVerdict outcomes pins = .incomplete := by
  rw [pressVerdict, if_neg (mt rejects_iff.1 h), if_pos (mt standing_eq_seated.1 hpressed)]

/-- R134, orders 3 and 4, by the pins that are not passed. -/
theorem pressVerdict_seated (h : ¬ Rejects outcomes pins) (hpressed : pressCause outcomes = some .seated) :
    pressVerdict outcomes pins
      = if pins.any (fun q => decide (q.verdict = .suspect) || decide (q.verdict = .unjudged)) then .review else .accept := by
  rw [pressVerdict, if_neg (mt rejects_iff.1 h), if_neg (not_not.2 (standing_eq_seated.2 hpressed))]

/-- R134, order 3: a pin that is neither passed nor failing is SUSPECT or UNJUDGED. -/
theorem pressVerdict_review (h : ¬ Rejects outcomes pins) (hpressed : pressCause outcomes = some .seated)
    (hpin : ∃ q ∈ pins, q.verdict ≠ .pass) : pressVerdict outcomes pins = .review := by
  obtain ⟨q, hq, hverdict⟩ := hpin
  rw [pressVerdict_seated h hpressed, if_pos]
  refine List.any_eq_true.2 ⟨q, hq, ?_⟩
  have hfails : ¬ (q.verdict = .lowEntry ∨ q.verdict = .highEntry ∨ q.verdict = .holdLow ∨ q.verdict = .holdHigh) :=
    fun hf => h (.inr (.inr (.inr ⟨q, hq, hf⟩)))
  cases hv : q.verdict <;> simp_all

/-- R134, order 4. -/
theorem pressVerdict_accept (hpressed : pressCause outcomes = some .seated) (hpins : ∀ q ∈ pins, q.verdict = .pass) :
    pressVerdict outcomes pins = .accept := by
  have hrejects : ¬ Rejects outcomes pins := by
    rintro (h | h | h | ⟨q, hq, h⟩)
    · simp [hpressed] at h
    · simp [hpressed] at h
    · simp [hpressed] at h
    · simp [hpins q hq] at h
  rw [pressVerdict_seated hrejects hpressed, if_neg]
  simp +contextual [hpins]

end

/-! ## The judged record: a pin verdict for each populated pin (R133) -/

/-- R133: the judgement keeps the columns, by number. -/
theorem judge_column_numbers (p : Profile) (knee : Option Nat) (r : Record) :
    (judge p knee r).columns.map (·.column) = r.columns.map (·.column) := by
  simp [judge, judgeColumn]

/-- R133: the pin verdicts of a column stand by row. -/
theorem judgePins_places (e : TypeEntry) (col : ColumnResult) :
    (judgePins e col).map (fun q => (q.column, q.row)) = (columnRows e col.column).map (fun x => (col.column, x.1)) := by
  simp [judgePins]

/-- R133: the pin verdicts of a record stand by column and row. -/
theorem judge_pin_places (p : Profile) (knee : Option Nat) (r : Record) :
    (judge p knee r).pins.map (fun q => (q.column, q.row))
      = (r.columns.map (·.column)).flatMap (fun c => (columnRows r.copy.entry c).map (fun x => (c, x.1))) := by
  have hpins : (judge p knee r).pins = (judge p knee r).columns.flatMap (judgePins r.copy.entry) := rfl
  rw [hpins, List.map_flatMap, ← judge_column_numbers p knee r, List.flatMap_map]
  simp only [judgePins_places]

/-- R19: the places of the pins of the columns 1 to C are as many as the populated pins. -/
theorem length_pin_places (e : TypeEntry) :
    ((List.range' 1 e.cols).flatMap (fun c => (columnRows e c).map (fun x => (c, x.1)))).length = pinCount e := by
  simp only [pinCount, gridPins, columnsOf, List.length_flatMap, List.length_map, ← columnRows_map_snd]

/-- Settles O53: the orders of R134 one by one, the places of the pin verdicts, and the bounds of the share. -/
theorem pressVerdictFollowsTheOrders : Obligations.PressVerdictFollowsTheOrders := by
  refine ⟨fun p knee r => ?_, fun step n hn => shareOf_bounds step hn⟩
  intro judged pressed failing rejects
  refine ⟨fun h => congrArg some (pressVerdict_reject h), fun h hp => congrArg some (pressVerdict_incomplete h hp),
    fun h hp hpin => congrArg some (pressVerdict_review h hp hpin), fun hp hpins => congrArg some (pressVerdict_accept hp hpins),
    fun hcolumns => ?_⟩
  have hplaces := judge_pin_places p knee r
  rw [hcolumns] at hplaces
  refine ⟨hplaces, ?_⟩
  rw [← length_pin_places, ← hplaces, List.length_map]

end Sys2Proof.Machine
end

section
/-! PROOFS. What the judgement writes for a column: its rank windows and their results, its hold, and its pins' verdicts (R120 to
R133). -/

namespace Sys2Proof.Machine

/-! ## The ranks present (R20) -/

/-- R20: the ranks present are the ranks of the column's pins, ascending. -/
theorem ranksPresent_eq (e : TypeEntry) (j : Nat) :
    ranksPresent e j = (List.range' 1 e.ranks).filter (fun x => decide (∃ q ∈ columnPins e j, q.rank = x)) :=
  List.filter_congr fun x _ => by rw [Bool.eq_iff_iff]; simp

theorem mem_ranksPresent_of_mem_columnPins {e : TypeEntry} {j : Nat} {pin : PinCell} (hpin : pin ∈ columnPins e j)
    (h1 : 1 ≤ pin.rank) (hranks : pin.rank ≤ e.ranks) : pin.rank ∈ ranksPresent e j := by
  rw [ranksPresent_eq]
  exact List.mem_filter.2 ⟨List.mem_range'_1.2 ⟨h1, by omega⟩, decide_eq_true ⟨pin, hpin, rfl⟩⟩

/-- R20: the copy's class of the rank class of rank x in column j. -/
def RankHasClass (c : CatalogueCopy) (j x : Nat) (cls : ClassEntry) : Prop :=
  tabGet c.classes (rankClass c.entry j x) = some cls

/-- R20: the rank class is that of the first pin of the rank. -/
theorem rankHasClass_of_rankPins {c : CatalogueCopy} {j x : Nat} {q : PinCell} {rest : List PinCell} {cls : ClassEntry}
    (h : rankPins c.entry j x = q :: rest) (hcls : tabGet c.classes q.cls = some cls) : RankHasClass c j x cls := by
  rw [RankHasClass, rankClass, h]
  exact hcls

/-- R123: the next rank is the first of the ranks 1 to K that is present and above. -/
theorem nextRank_eq (e : TypeEntry) (j x : Nat) :
    nextRank e j x
      = (List.range' 1 e.ranks).find? (fun y => decide (x < y ∧ ∃ q ∈ columnPins e j, q.rank = y)) := by
  rw [nextRank, ranksPresent_eq, List.find?_filter]
  congr 1
  funext y
  rw [Bool.eq_iff_iff]
  simp [and_comm]

/-! ## Rank windows (R122 to R127) -/

section
variable {c : CatalogueCopy} {j x : Nat}

/-- R122: the full last bin, by the class of the rank. -/
theorem fullLast_of_class {cls : ClassEntry} (h : RankHasClass c j x cls) :
    fullLast c j x = onsetOf c.entry x / 5 + cls.engage / 5 - 1 := by
  rw [RankHasClass] at h
  simp [fullLast, onsetBin, engageOf, h, Config.binDepth]

/-- R123: with no next rank the window runs to its full last bin. -/
theorem lastBin_of_no_next (h : nextRank c.entry j x = none) : lastBin c j x = fullLast c j x := by
  simp [lastBin, h]

/-- R123: the window ends before the onset bin of the next rank. -/
theorem lastBin_of_next {y : Nat} (h : nextRank c.entry j x = some y) :
    lastBin c j x = min (fullLast c j x) (onsetBin c.entry y - 1) := by
  simp only [lastBin, h]
  split <;> omega

theorem mem_windowBins {b : Nat} : b ∈ windowBins c j x ↔ onsetOf c.entry x / 5 ≤ b ∧ b ≤ lastBin c j x := by
  simp only [windowBins, List.mem_range'_1, onsetBin, Config.binDepth]
  omega

/-- R124: a window is complete in a press that ran and ended beyond the window's last bin. -/
theorem windowComplete_iff {outcomes : List StepOutcome} {pressEnd : Option Nat} {last : Nat} :
    windowComplete (standing outcomes) pressEnd last = true
      ↔ pressCause outcomes ≠ none ∧ ∃ b, pressEnd = some b ∧ last < b := by
  cases pressEnd <;> simp [windowComplete, standing_eq_notPressed]

/-- R125: a window is suspect by the source of its carry force or by one of its bins. -/
theorem windowSuspect_iff {channel : Bins} {base : Option FingerSample} :
    windowSuspect c channel base j x = true ↔ (carryOf c channel base x).suspect = true
      ∨ ∃ b, onsetOf c.entry x / 5 ≤ b ∧ b ≤ lastBin c j x ∧ (binRead channel b).suspect = true := by
  simp only [windowSuspect, Bool.or_eq_true, List.any_eq_true, mem_windowBins, and_assoc]
  exact or_comm

end

/-! ## Rank results (R126 to R129, R133) -/

/-- R133: the result of a rank without a complete window. -/
def bareRank (c : CatalogueCopy) (j x : Nat) : RankResult :=
  { rank := x, pins := (rankPins c.entry j x).length, carry := none, peak := none, step := none, share := none
    verdict := .unjudged }

/-- R128: the share of a rank with a complete window. -/
def rankShare (c : CatalogueCopy) (channel : Bins) (base : Option FingerSample) (j x : Nat) : Nat :=
  shareOf (windowPeak c channel j x - (carryOf c channel base x).value) (rankPins c.entry j x).length

/-- R125, R129: the rank verdict of a complete window. -/
def entryVerdict (c : CatalogueCopy) (channel : Bins) (base : Option FingerSample) (j x : Nat) : Verdict :=
  if windowSuspect c channel base j x then .suspect
  else entryCheck (tabGet c.classes (rankClass c.entry j x)) (rankShare c channel base j x)

section
variable {c : CatalogueCopy} {st : Standing} {pressEnd : Option Nat} {channel : Bins} {base : Option FingerSample}
  {judged : Bool} {j x : Nat}

theorem judgeRank_rank : (judgeRank c st pressEnd channel base judged j x).rank = x := by
  rw [judgeRank]
  split <;> rfl

theorem judgeRank_unjudged (h : judged = false ∨ windowComplete st pressEnd (lastBin c j x) = false) :
    judgeRank c st pressEnd channel base judged j x = bareRank c j x :=
  if_pos (by rcases h with h | h <;> simp [h])

theorem judgeRank_complete (hjudged : judged = true) (h : windowComplete st pressEnd (lastBin c j x) = true) :
    judgeRank c st pressEnd channel base judged j x =
      { rank := x, pins := (rankPins c.entry j x).length, carry := some (carryOf c channel base x).value
        peak := some (windowPeak c channel j x)
        step := some (windowPeak c channel j x - (carryOf c channel base x).value)
        share := some (rankShare c channel base j x), verdict := entryVerdict c channel base j x } :=
  if_neg (by simp [hjudged, h])

end

/-! ## The orders of the entry check and of the hold check (R129 to R131) -/

/-- R125, R129: the entry check's orders: which verdict is given to a rank, or that it is passed. -/
def EntryOrders (cls : ClassEntry) (share : Nat) (suspect : Prop) (given : Verdict → Prop) (passed : Prop) : Prop :=
  (suspect → given .suspect)
  ∧ (¬ suspect → cls.entryMax < share → given .highEntry)
  ∧ (¬ suspect → share ≤ cls.entryMax → share < cls.entryMin → given .lowEntry)
  ∧ (¬ suspect → share ≤ cls.entryMax → cls.entryMin ≤ share → passed)

/-- R130, R131: the hold check's orders: which verdict is given to a column whose hold is `b`. -/
def HoldOrders (b : Bin) (low high : Nat) (given : Verdict → Prop) : Prop :=
  (b.suspect = true → given .suspect)
  ∧ (b.suspect = false → high < b.value → given .holdHigh)
  ∧ (b.suspect = false → b.value ≤ high → b.value < low → given .holdLow)
  ∧ (b.suspect = false → b.value ≤ high → low ≤ b.value → given .pass)

theorem EntryOrders.imp {cls : ClassEntry} {share : Nat} {suspect passed passed' : Prop} {given given' : Verdict → Prop}
    (h : EntryOrders cls share suspect given passed) (hgiven : ∀ v, v ≠ .pass → given v → given' v)
    (hpassed : passed → passed') : EntryOrders cls share suspect given' passed' := by
  obtain ⟨hsuspect, hhigh, hlow, hpass⟩ := h
  exact ⟨fun hs => hgiven _ nofun (hsuspect hs), fun hs hm => hgiven _ nofun (hhigh hs hm),
    fun hs hm hl => hgiven _ nofun (hlow hs hm hl), fun hs hm hl => hpassed (hpass hs hm hl)⟩

theorem HoldOrders.imp {b : Bin} {low high : Nat} {given given' : Verdict → Prop} (h : HoldOrders b low high given)
    (hgiven : ∀ v, given v → given' v) : HoldOrders b low high given' := by
  obtain ⟨hsuspect, hhigh, hlow, hpass⟩ := h
  exact ⟨fun hs => hgiven _ (hsuspect hs), fun hs hm => hgiven _ (hhigh hs hm),
    fun hs hm hl => hgiven _ (hlow hs hm hl), fun hs hm hl => hgiven _ (hpass hs hm hl)⟩

/-- R125, R129: the verdict of a complete window follows the entry check's orders. -/
theorem entryVerdict_orders {c : CatalogueCopy} {channel : Bins} {base : Option FingerSample} {j x : Nat} {cls : ClassEntry}
    (h : RankHasClass c j x cls) : EntryOrders cls (rankShare c channel base j x)
      (windowSuspect c channel base j x = true)
      (entryVerdict c channel base j x = ·) (entryVerdict c channel base j x = .pass) := by
  have hcheck : ¬ windowSuspect c channel base j x = true →
      entryVerdict c channel base j x = entryCheck (some cls) (rankShare c channel base j x) :=
    fun hs => (if_neg hs).trans (congrArg (entryCheck · _) h)
  refine ⟨fun hs => if_pos hs, fun hs hm => ?_, fun hs hm hl => ?_, fun hs hm hl => ?_⟩
  · rw [hcheck hs, entryCheck, if_pos hm]
  · rw [hcheck hs, entryCheck, if_neg (by omega), if_pos hl]
  · rw [hcheck hs, entryCheck, if_neg (by omega), if_neg (by omega)]

section
variable {c : CatalogueCopy} {st : Standing} {knee : Option Nat} {channel : Bins} {judged : Bool} {j : Nat}

/-- R130: no hold stands outside a SEATED press, for an ABSENT column, or for one without pins. -/
theorem judgeHold_absent (h : st ≠ .seated ∨ judged = false ∨ columnPins c.entry j = []) :
    judgeHold c st knee channel judged j = (none, .unjudged) := by
  unfold judgeHold
  split
  · exact if_pos (by simpa [columnPinCount] using h)
  · rfl

section
variable {k : Nat} (hjudged : judged = true) (hpins : columnPins c.entry j ≠ [])
include hjudged hpins

/-- R130: the hold force is the value of the bin before the knee onset bin. -/
theorem judgeHold_force : (judgeHold c .seated (some k) channel judged j).1 = some (binRead channel (k - 1)).value := by
  simp [judgeHold, hjudged, columnPinCount, hpins]

/-- R131: the hold verdict follows the hold check's orders. -/
theorem judgeHold_orders : HoldOrders (binRead channel (k - 1)) (holdLow c.classes c.entry j) (holdHigh c.classes c.entry j)
    ((judgeHold c .seated (some k) channel judged j).2 = ·) := by
  have hhold : (judgeHold c .seated (some k) channel judged j).2 =
      if (binRead channel (k - 1)).suspect then .suspect
      else if holdHigh c.classes c.entry j < (binRead channel (k - 1)).value then .holdHigh
      else if (binRead channel (k - 1)).value < holdLow c.classes c.entry j then .holdLow
      else .pass := by
    simp [judgeHold, hjudged, columnPinCount, hpins]
  refine ⟨fun hs => ?_, fun hs hm => ?_, fun hs hm hl => ?_, fun hs hm hl => ?_⟩
  · rw [hhold, if_pos hs]
  · rw [hhold, if_neg (by simp [hs]), if_pos hm]
  · rw [hhold, if_neg (by simp [hs]), if_neg (by omega), if_pos hl]
  · rw [hhold, if_neg (by simp [hs]), if_neg (by omega), if_neg (by omega)]

end
end

/-! ## The columns and pins of a judged record (R120, R132, R133) -/

/-- R126: the touch base of a column. -/
def columnBase (p : Profile) (j : Nat) : Option FingerSample := p.bases.bind (fun bs => bs[j - 1]?)

/-- R133: the rank result that the judgement of a record writes for a rank of a column. -/
def rankResult (p : Profile) (r : Record) (col : ColumnResult) (x : Nat) : RankResult :=
  judgeRank r.copy (standing r.outcomes) p.pressEnd (p.channel col.column) (columnBase p col.column) col.judged col.column x

/-- R130, R131: the hold force and verdict that the judgement of a record writes for a column. -/
def columnHold (p : Profile) (knee : Option Nat) (r : Record) (col : ColumnResult) : Option Nat × Verdict :=
  judgeHold r.copy (standing r.outcomes) knee (p.channel col.column) col.judged col.column

/-- R133: a column as the judgement of a record writes it. -/
def judgedColumn (p : Profile) (knee : Option Nat) (r : Record) (col : ColumnResult) : ColumnResult :=
  { col with
    ranks := (ranksPresent r.copy.entry col.column).map (rankResult p r col)
    hold := (columnHold p knee r col).1
    holdVerdict := some (columnHold p knee r col).2 }

/-- R132, R141: the verdict stands for the place, and no other does. -/
def PinGiven (pins : List PinResult) (j i : Nat) (v : Verdict) : Prop :=
  { column := j, row := i, verdict := v } ∈ pins ∧ ∀ q ∈ pins, q.column = j → q.row = i → q.verdict = v

section
variable {p : Profile} {knee : Option Nat} {r : Record} {col : ColumnResult}

theorem judge_columns : (judge p knee r).columns = r.columns.map (judgedColumn p knee r) := rfl

theorem judge_pins :
    (judge p knee r).pins = r.columns.flatMap (fun col => judgePins r.copy.entry (judgedColumn p knee r col)) :=
  List.flatMap_map ..

theorem judgedColumn_rank_numbers :
    (judgedColumn p knee r col).ranks.map (·.rank) = ranksPresent r.copy.entry col.column := by
  have h : (fun t : RankResult => t.rank) ∘ rankResult p r col = id := funext fun _ => judgeRank_rank
  simp only [judgedColumn, List.map_map, h, List.map_id]

/-- R133: a rank result of a judged column is the one of its own rank. -/
theorem eq_rankResult_of_mem {t : RankResult} (h : t ∈ (judgedColumn p knee r col).ranks) :
    t = rankResult p r col t.rank := by
  obtain ⟨x, -, rfl⟩ := List.mem_map.1 h
  rw [show (rankResult p r col x).rank = x from judgeRank_rank]

/-- R133: a rank present is found among the rank results of its column. -/
theorem find_rankResult {x : Nat} (h : x ∈ ranksPresent r.copy.entry col.column) :
    (judgedColumn p knee r col).ranks.find? (fun t => decide (t.rank = x)) = some (rankResult p r col x) := by
  have hrank : ∀ y, (rankResult p r col y).rank = y := fun _ => judgeRank_rank
  simp only [judgedColumn, List.find?_map, Function.comp_def, hrank]
  cases hfind : (ranksPresent r.copy.entry col.column).find? (fun y => decide (y = x)) with
  | none => simpa using List.find?_eq_none.1 hfind x h
  | some y =>
    obtain rfl : y = x := by simpa using List.find?_some hfind
    rfl

/-- R132: the verdict of a pin, by its rank's result and its column's hold. -/
theorem mem_judgePins {q : PinResult} : q ∈ judgePins r.copy.entry (judgedColumn p knee r col) ↔ q.column = col.column
    ∧ ∃ pin, (q.row, pin) ∈ columnRows r.copy.entry col.column ∧ q.verdict = pinVerdict
        ((((judgedColumn p knee r col).ranks.find? (fun t => decide (t.rank = pin.rank))).map (·.verdict)).getD .unjudged)
        (columnHold p knee r col).2 := by
  simp only [judgePins, List.mem_map, Prod.exists]
  constructor
  · rintro ⟨i, pin, hrow, rfl⟩
    exact ⟨rfl, pin, hrow, rfl⟩
  · rintro ⟨hcolumn, pin, hrow, hverdict⟩
    exact ⟨q.row, pin, hrow, by rw [PinResult.mk.injEq]; exact ⟨hcolumn.symm, rfl, hverdict.symm⟩⟩

/-- R132, R133: the pin at a place of a record whose columns are distinct has the verdict of its rank and its column's hold. -/
theorem judge_pin_given {i : Nat} {pin : PinCell} (hcol : col ∈ r.columns) (hnodup : (r.columns.map (·.column)).Nodup)
    (hrow : (i, pin) ∈ columnRows r.copy.entry col.column) (hrank : pin.rank ∈ ranksPresent r.copy.entry col.column) :
    PinGiven (judge p knee r).pins col.column i
      (pinVerdict (rankResult p r col pin.rank).verdict (columnHold p knee r col).2) := by
  rw [judge_pins]
  refine ⟨List.mem_flatMap.2 ⟨col, hcol, mem_judgePins.2 ⟨rfl, pin, hrow, ?_⟩⟩, fun q hq hcolumn hi => ?_⟩
  · simp [find_rankResult hrank]
  · obtain ⟨col', hcol', hq⟩ := List.mem_flatMap.1 hq
    obtain ⟨hcolumn', pin', hrow', hverdict⟩ := mem_judgePins.1 hq
    obtain rfl : col' = col := List.inj_on_of_nodup_map hnodup hcol' hcol (hcolumn'.symm.trans hcolumn)
    obtain rfl : pin' = pin := columnRows_pin_unique hrow' (hi ▸ hrow)
    simpa [find_rankResult hrank] using hverdict

end

/-! ## The orders that a column and its pins follow (R129 to R132) -/

section
variable {p : Profile} {knee : Option Nat} {r : Record} {col : ColumnResult}

/-- R124: the window of a rank of the record's column is complete. -/
def RankComplete (p : Profile) (r : Record) (col : ColumnResult) (x : Nat) : Prop :=
  windowComplete (standing r.outcomes) p.pressEnd (lastBin r.copy col.column x) = true

theorem rankResult_unjudged {x : Nat} (h : col.judged = false ∨ ¬ RankComplete p r col x) :
    rankResult p r col x = bareRank r.copy col.column x :=
  judgeRank_unjudged (h.imp_right Bool.eq_false_iff.2)

/-- R129: the rank verdict of a complete window follows the entry check's orders. -/
theorem rankResult_orders {x : Nat} {cls : ClassEntry} (h : RankHasClass r.copy col.column x cls) (hjudged : col.judged = true)
    (hc : RankComplete p r col x) :
    EntryOrders cls (rankShare r.copy (p.channel col.column) (columnBase p col.column) col.column x)
      (windowSuspect r.copy (p.channel col.column) (columnBase p col.column) col.column x = true)
      ((rankResult p r col x).verdict = ·) ((rankResult p r col x).verdict = .pass) := by
  rw [rankResult, judgeRank_complete hjudged hc]
  exact entryVerdict_orders h

theorem columnHold_absent
    (h : pressCause r.outcomes ≠ some .seated ∨ col.judged = false ∨ columnPins r.copy.entry col.column = []) :
    columnHold p knee r col = (none, .unjudged) :=
  judgeHold_absent (h.imp_left (mt standing_eq_seated.1))

/-- R130: the hold of a SEATED press is judged at its knee onset bin. -/
theorem columnHold_seated {k : Nat} (hpressed : pressCause r.outcomes = some .seated) (hknee : knee = some k) :
    columnHold p knee r col = judgeHold r.copy .seated (some k) (p.channel col.column) col.judged col.column := by
  rw [columnHold, standing_eq_seated.2 hpressed, hknee]

section
variable {i : Nat} {pin : PinCell} (hcol : col ∈ r.columns) (hnodup : (r.columns.map (·.column)).Nodup)
  (hrow : (i, pin) ∈ columnRows r.copy.entry col.column) (hrank : pin.rank ∈ ranksPresent r.copy.entry col.column)
include hcol hnodup hrow hrank

/-- R132: a rank verdict that is not PASS stands for the rank's pins. -/
theorem judge_pin_of_rank {v : Verdict} (hv : v ≠ .pass) (h : (rankResult p r col pin.rank).verdict = v) :
    PinGiven (judge p knee r).pins col.column i v := by
  have hgiven : PinGiven (judge p knee r).pins col.column i _ := judge_pin_given hcol hnodup hrow hrank
  rwa [pinVerdict, h, if_neg hv] at hgiven

/-- R132: the hold verdict decides for the pins of a rank that is passed. -/
theorem judge_pin_of_hold {v : Verdict} (h : (rankResult p r col pin.rank).verdict = .pass)
    (hv : (columnHold p knee r col).2 = v) : PinGiven (judge p knee r).pins col.column i v := by
  have hgiven : PinGiven (judge p knee r).pins col.column i _ := judge_pin_given hcol hnodup hrow hrank
  rwa [pinVerdict, if_pos h, hv] at hgiven

end
end

/-- Settles O52: the rank results, the hold and the pin verdicts of a column, each by the orders of its check. -/
theorem pinVerdictsFollowTheOrders : Obligations.PinVerdictsFollowTheOrders := by
  intro p knee k m r col hcol pressed hknee judged e pins bin first last count carry peak share complete suspect bare hold low high
  have hlast : ∀ {x cls}, RankHasClass r.copy col.column x cls → lastBin r.copy col.column x = last x cls := by
    intro x cls h
    simp only [last, first]
    rw [← nextRank_eq, ← fullLast_of_class h]
    cases hnext : nextRank e col.column x with
    | none => exact lastBin_of_no_next hnext
    | some y => exact lastBin_of_next hnext
  have hcomplete : ∀ {x cls}, RankHasClass r.copy col.column x cls → (RankComplete p r col x ↔ complete x cls) :=
    fun h => by rw [RankComplete, windowComplete_iff, hlast h]; exact Iff.rfl
  have hsuspect : ∀ {x cls}, RankHasClass r.copy col.column x cls →
      (windowSuspect r.copy (p.channel col.column) (columnBase p col.column) col.column x = true ↔ suspect x cls) :=
    fun h => by rw [windowSuspect_iff, hlast h]; exact Iff.rfl
  have hpeak : ∀ {x cls}, RankHasClass r.copy col.column x cls →
      windowPeak r.copy (p.channel col.column) col.column x = peak x cls :=
    fun h => by simp only [peak, ← hlast h]; rfl
  have hshare : ∀ {x cls}, RankHasClass r.copy col.column x cls →
      rankShare r.copy (p.channel col.column) (columnBase p col.column) col.column x = share x cls :=
    fun h => by rw [rankShare, hpeak h]; rfl
  have hentry : ∀ {x cls}, RankHasClass r.copy col.column x cls → col.judged = true → complete x cls →
      EntryOrders cls (share x cls) (suspect x cls) ((rankResult p r col x).verdict = ·)
        ((rankResult p r col x).verdict = .pass) :=
    fun h hjudged hc => hshare h ▸ propext (hsuspect h) ▸ rankResult_orders h hjudged ((hcomplete h).2 hc)
  have hholds : pressed = some .seated → col.judged = true → pins ≠ [] →
      HoldOrders hold low high ((columnHold p knee r col).2 = ·) :=
    fun hp hjudged hpins => columnHold_seated hp (hknee hp) ▸ judgeHold_orders hjudged hpins
  refine ⟨⟨judgedColumn p knee r col, by rw [judge_columns, List.getElem?_map, hcol]; rfl, by simp [judged, judge_columns], rfl,
    judgedColumn_rank_numbers.trans (ranksPresent_eq e col.column), fun t ht hunjudged => ?_,
    fun t ht q rest cls hq hcls => ?_, fun h => ?_, fun hp hjudged hpins => ?_⟩,
    fun i pin q rest cls hnodup hrow h1 hranks hq hcls => ?_⟩
  · exact (eq_rankResult_of_mem ht).trans
      (rankResult_unjudged (hunjudged.imp_right fun hp hc => (windowComplete_iff.1 hc).1 hp))
  · have hclass := rankHasClass_of_rankPins hq hcls
    refine ⟨fun hc => (eq_rankResult_of_mem ht).trans (rankResult_unjudged (.inr (mt (hcomplete hclass).1 hc))),
      fun hjudged hc => ⟨_, (eq_rankResult_of_mem ht).trans ?_, hentry hclass hjudged hc⟩⟩
    rw [rankResult, judgeRank_complete hjudged ((hcomplete hclass).2 hc), hpeak hclass, hshare hclass]
    rfl
  · rw [judgedColumn, columnHold_absent h]
    exact ⟨rfl, rfl⟩
  · refine ⟨?_, (hholds hp hjudged hpins).imp fun v hv => congrArg some hv⟩
    exact (congrArg Prod.fst (columnHold_seated hp (hknee hp))).trans (judgeHold_force hjudged hpins)
  · intro given
    have hclass := rankHasClass_of_rankPins hq hcls
    have hpin := mem_columnPins_of_mem_columnRows hrow
    have hpresent := mem_ranksPresent_of_mem_columnPins hpin h1 hranks
    have hcolumn := List.mem_of_getElem? hcol
    have hstands : ∀ v, v ≠ .pass → (rankResult p r col pin.rank).verdict = v → given v :=
      fun v => judge_pin_of_rank hcolumn hnodup hrow hpresent
    have hpassed : (rankResult p r col pin.rank).verdict = .pass → ∀ v, (columnHold p knee r col).2 = v → given v :=
      fun h v => judge_pin_of_hold hcolumn hnodup hrow hpresent h
    refine ⟨fun h => hstands .unjudged nofun ?_, fun hjudged hc => (hentry hclass hjudged hc).imp hstands fun hpass =>
      ⟨fun hp => hpassed hpass _ (by rw [columnHold_absent (.inl hp)]),
        fun hp => (hholds hp hjudged (List.ne_nil_of_mem hpin)).imp (hpassed hpass)⟩⟩
    rw [rankResult_unjudged (h.imp_right (mt (hcomplete hclass).1)), bareRank]

end Sys2Proof.Machine
end

section
/-! PROOFS. What the invariant of the result store reads of a state, and the invariant in those terms (R137, R138, R142, R157,
R158). -/

namespace Sys2Proof.Machine

/-! ## What the invariant reads -/

/-- What `StoreSound` reads of a state: each record's press number and state, the next press number, the held press number, and
whether a job is RUNNING. -/
structure StoreView where
  keys : List (Nat × RecordState)
  next : Nat
  held : Option Nat
  running : Bool

/-- What `StoreSound` reads of a record. -/
def Record.key (r : Record) : Nat × RecordState := (r.press, r.state)

/-- The view of a state. -/
def storeOf (s : State) : StoreView :=
  { keys := s.store.records.map Record.key, next := s.store.next, held := s.qual.held, running := s.jobRunning }

/-- The keys in a record state. -/
def keysIn (st : RecordState) (keys : List (Nat × RecordState)) : List (Nat × RecordState) :=
  keys.filter (fun k => decide (k.2 = st))

/-- `StoreSound`, of the view alone: the OPEN records are no more than the RUNNING jobs, the HELD records are those that the
held press number names, and there is none while a job is RUNNING. -/
structure StoreView.Sound (v : StoreView) : Prop where
  capacity : v.keys.length ≤ 32
  distinct : (v.keys.map Prod.fst).Nodup
  range : ∀ k ∈ v.keys, 1 ≤ k.1 ∧ k.1 ≤ 65535
  next : 1 ≤ v.next ∧ v.next ≤ 65535
  opened : (keysIn .opened v.keys).length ≤ v.running.toNat
  held : keysIn .held v.keys = v.held.toList.map (·, .held)
  stopped : v.running = true → v.held = none

theorem mem_keysIn {st : RecordState} {keys : List (Nat × RecordState)} {k : Nat × RecordState} :
    k ∈ keysIn st keys ↔ k ∈ keys ∧ k.2 = st := by simp [keysIn]

theorem keysIn_records (st : RecordState) (rs : List Record) :
    keysIn st (rs.map Record.key) = (rs.filter (fun r => decide (r.state = st))).map Record.key := by
  rw [keysIn, List.filter_map]
  rfl

theorem keysIn_append (st : RecordState) (a b : List (Nat × RecordState)) : keysIn st (a ++ b) = keysIn st a ++ keysIn st b :=
  List.filter_append ..

theorem keysIn_cons (st : RecordState) (k : Nat × RecordState) (keys : List (Nat × RecordState)) :
    keysIn st (k :: keys) = if k.2 = st then k :: keysIn st keys else keysIn st keys := by simp [keysIn, List.filter_cons]

/-- A list holds no key in a state where every key is in another. -/
theorem keysIn_eq_nil {st : RecordState} {keys : List (Nat × RecordState)} :
    keysIn st keys = [] ↔ ∀ k ∈ keys, k.2 ≠ st := by simp [keysIn]

/-- The held press number names the one HELD record, in one equation. -/
theorem held_eq_iff {rs : List Record} {held : Option Nat} :
    (keysIn .held (rs.map Record.key) = held.toList.map (·, .held)) ↔
      held = (rs.find? (fun r => decide (r.state = .held))).map (·.press)
        ∧ (rs.filter (fun r => decide (r.state = .held))).length ≤ 1 := by
  have hstate : ∀ r ∈ rs.filter (fun r => decide (r.state = .held)), r.key = (r.press, .held) := fun r hr => by
    simp only [List.mem_filter, decide_eq_true_eq] at hr
    rw [Record.key, hr.2]
  rw [keysIn_records, List.map_congr_left hstate, ← List.head?_filter]
  generalize rs.filter (fun r => decide (r.state = .held)) = hs
  match hs, held with
  | [], none => simp
  | [], some p => simp
  | [r], none => simp
  | [r], some p => simp [eq_comm]
  | r :: r' :: rest, none => simp
  | r :: r' :: rest, some p => simp

/-- At most one record is OPEN, and none where no job is RUNNING, in one bound. -/
theorem opened_le_iff {rs : List Record} {running : Bool} :
    (keysIn .opened (rs.map Record.key)).length ≤ running.toNat ↔
      (rs.filter (fun r => decide (r.state = .opened))).length ≤ 1 ∧ ((∃ r ∈ rs, r.state = .opened) → running = true) := by
  rw [keysIn_records, List.length_map]
  cases running with
  | true => simp
  | false =>
    have hnone : (rs.filter (fun r => decide (r.state = .opened))).length ≤ 0 ↔ ¬ ∃ r ∈ rs, r.state = .opened := by
      simp
    rw [Bool.toNat_false, hnone]
    exact ⟨fun h => ⟨by rw [Nat.le_zero.1 (hnone.2 h)]; exact Nat.zero_le 1, fun hex => absurd hex h⟩,
      fun h hex => nomatch h.2 hex⟩

/-- No record is HELD where the held press number names none. -/
theorem find_held_eq_none {rs : List Record} :
    (rs.find? (fun r => decide (r.state = .held))).map (·.press) = none ↔ ¬ ∃ r ∈ rs, r.state = .held := by
  simp

/-- The invariant of the store, of the view. -/
theorem storeSound_iff (s : State) : StoreSound s ↔ (storeOf s).Sound := by
  have hlength : (s.store.records.map Record.key).length = s.store.records.length := List.length_map ..
  have hpress : (s.store.records.map Record.key).map Prod.fst = s.store.records.map (·.press) := List.map_map ..
  have hrange : (∀ k ∈ s.store.records.map Record.key, 1 ≤ k.1 ∧ k.1 ≤ 65535)
      ↔ ∀ r ∈ s.store.records, 1 ≤ r.press ∧ r.press ≤ 65535 := List.forall_mem_map
  constructor
  · intro h
    refine ⟨hlength.trans_le h.capacity, hpress ▸ h.distinct, hrange.2 h.range, h.next, opened_le_iff.2 ⟨h.oneOpen, h.openRuns⟩,
      held_eq_iff.2 ⟨h.held, h.oneHeld⟩, fun hrun => h.held.trans (find_held_eq_none.2 fun hex => ?_)⟩
    exact Bool.false_ne_true ((h.heldStops hex).symm.trans hrun)
  · intro h
    obtain ⟨honeOpen, hruns⟩ := opened_le_iff.1 h.opened
    obtain ⟨hheld, honeHeld⟩ := held_eq_iff.1 h.held
    refine ⟨hlength.symm.trans_le h.capacity, hpress ▸ h.distinct, hrange.1 h.range, h.next, honeOpen, hruns, hheld, honeHeld,
      fun hex => Bool.eq_false_iff.2 fun hrun => find_held_eq_none.1 (hheld.symm.trans (h.stopped hrun)) hex⟩

/-- The invariant of the store depends on the view alone. -/
theorem storeSound_congr {s t : State} (h : storeOf t = storeOf s) (hs : StoreSound s) : StoreSound t :=
  (storeSound_iff t).2 (h ▸ (storeSound_iff s).1 hs)

end Sys2Proof.Machine
end

section
/-! PROOFS. What START, the rest report, DISPOSE and RESULT RELEASE do to the press numbers and states of the store (R138, R142,
R143, R149, R157, R160). -/

namespace Sys2Proof.Machine

/-! ## The state of one press changed -/

/-- The keys with the state of a press changed. -/
def restate (p : Nat) (st : RecordState) (keys : List (Nat × RecordState)) : List (Nat × RecordState) :=
  keys.map (fun k => if k.1 = p then (k.1, st) else k)

section
variable {p : Nat} {st x : RecordState} {keys : List (Nat × RecordState)}

@[simp] theorem length_restate : (restate p st keys).length = keys.length := List.length_map ..

@[simp] theorem restate_presses : (restate p st keys).map Prod.fst = keys.map Prod.fst := by
  rw [restate, List.map_map]
  exact List.map_congr_left fun k _ => by simp only [Function.comp]; split <;> rfl

/-- A list without the press stays. -/
theorem restate_of_not_mem (h : ∀ k ∈ keys, k.1 ≠ p) : restate p st keys = keys :=
  (List.map_congr_left fun k hk => if_neg (h k hk)).trans (List.map_id keys)

/-- Every other state loses the press. -/
theorem keysIn_restate_other (h : st ≠ x) :
    keysIn x (restate p st keys) = (keysIn x keys).filter (fun k => decide (k.1 ≠ p)) := by
  have hpass : (fun k : Nat × RecordState => decide (k.2 = x)) ∘ (fun k => if k.1 = p then (k.1, st) else k)
      = fun k => decide (k.1 ≠ p) && decide (k.2 = x) := by
    funext k
    by_cases hk : k.1 = p <;> simp [hk, h]
  rw [restate, keysIn, List.filter_map, hpass, keysIn, List.filter_filter]
  refine restate_of_not_mem fun k hk => ?_
  have hkept := (List.mem_filter.1 hk).2
  rw [Bool.and_eq_true, decide_eq_true_eq] at hkept
  exact hkept.1

/-- The state entered holds the press alone, where it held none. -/
theorem keysIn_restate_self (hdistinct : (keys.map Prod.fst).Nodup) (hp : (p, x) ∈ keys) (hnone : keysIn st keys = []) :
    keysIn st (restate p st keys) = [(p, st)] := by
  obtain ⟨before, after, rfl⟩ := List.append_of_mem hp
  rw [keysIn_eq_nil, List.forall_mem_append, List.forall_mem_cons] at hnone
  obtain ⟨hbefore, _, hafter⟩ := hnone
  rw [List.map_append, List.map_cons, List.nodup_middle, List.nodup_cons, List.mem_append, not_or] at hdistinct
  obtain ⟨⟨hfirst, hlast⟩, _⟩ := hdistinct
  have hstay {l : List (Nat × RecordState)} (hl : p ∉ l.map Prod.fst) : restate p st l = l :=
    restate_of_not_mem fun k hk hpress => hl (hpress ▸ List.mem_map_of_mem hk)
  have hsplit : restate p st (before ++ (p, x) :: after) = before ++ (p, st) :: after := by
    rw [restate, List.map_append, List.map_cons, if_pos rfl]
    exact congrArg₂ (fun a b => a ++ (p, st) :: b) (hstay hfirst) (hstay hlast)
  rw [hsplit, keysIn_append, keysIn_eq_nil.2 hbefore, List.nil_append, keysIn_cons, if_pos rfl, keysIn_eq_nil.2 hafter]

end

/-! ## The changes of the view -/

section
variable {v : StoreView} {p : Nat}

/-- R137, R157: with no job RUNNING no record is OPEN. -/
theorem StoreView.Sound.none_open (hv : v.Sound) (hr : v.running = false) : keysIn .opened v.keys = [] :=
  List.eq_nil_of_length_eq_zero (Nat.le_zero.1 (by simpa [hr] using hv.opened))

/-- R137: the one OPEN record is the list of them. -/
theorem StoreView.Sound.opened_eq (hv : v.Sound) (hp : (p, RecordState.opened) ∈ v.keys) :
    keysIn .opened v.keys = [(p, .opened)] := by
  have hle : (keysIn .opened v.keys).length ≤ 1 := hv.opened.trans (Bool.toNat_le _)
  obtain ⟨k, hk⟩ := List.length_eq_one_iff.1 (hle.antisymm (List.length_pos_of_mem (mem_keysIn.2 ⟨hp, rfl⟩)))
  rw [hk]
  exact congrArg ([·]) (List.mem_singleton.1 (hk ▸ mem_keysIn.2 ⟨hp, rfl⟩)).symm

/-- R137: a press number has one state. -/
theorem StoreView.Sound.state_unique (hv : v.Sound) {a b : RecordState} (ha : (p, a) ∈ v.keys) (hb : (p, b) ∈ v.keys) : a = b :=
  congrArg Prod.snd (List.inj_on_of_nodup_map hv.distinct ha hb rfl)

/-- R157: the held press number names a HELD record. -/
theorem StoreView.Sound.held_iff (hv : v.Sound) : v.held = some p ↔ (p, RecordState.held) ∈ v.keys := by
  have hmem : (p, RecordState.held) ∈ keysIn .held v.keys ↔ v.held = some p := by simp [hv.held]
  rw [← hmem, mem_keysIn]
  exact and_iff_left rfl

/-- R138, R142: START opens a record of a free press number. -/
theorem StoreView.Sound.press_opens (hv : v.Sound) {next : Nat} (hr : v.running = false) (hheld : v.held = none)
    (hroom : v.keys.length < 32) (hp : 1 ≤ p ∧ p ≤ 65535) (hfree : p ∉ v.keys.map Prod.fst) (hnext : 1 ≤ next ∧ next ≤ 65535) :
    StoreView.Sound { v with keys := v.keys ++ [(p, .opened)], next := next, running := true } where
  capacity := by simpa using hroom
  distinct := by
    rw [List.map_append]
    exact List.nodup_append'.2 ⟨hv.distinct, List.nodup_singleton _, by simpa using hfree⟩
  range := List.forall_mem_append.2 ⟨hv.range, List.forall_mem_singleton.2 hp⟩
  next := hnext
  opened := by rw [keysIn_append, hv.none_open hr]; rfl
  held := by rw [keysIn_append, hv.held, hheld]; rfl
  stopped := fun _ => hheld

/-- A press whose state changes leaves the capacity, the press numbers and their range. -/
theorem StoreView.Sound.press_restated (hv : v.Sound) {st : RecordState} {held : Option Nat} {running : Bool}
    (hopened : (keysIn .opened (restate p st v.keys)).length ≤ running.toNat)
    (hheld : keysIn .held (restate p st v.keys) = held.toList.map (·, .held)) (hstopped : running = true → held = none) :
    StoreView.Sound { v with keys := restate p st v.keys, held := held, running := running } where
  capacity := length_restate.trans_le hv.capacity
  distinct := by simpa using hv.distinct
  range := by
    have hpresses : ∀ q ∈ (restate p st v.keys).map Prod.fst, 1 ≤ q ∧ q ≤ 65535 := by
      rw [restate_presses]
      exact List.forall_mem_map.2 hv.range
    exact List.forall_mem_map.1 hpresses
  next := hv.next
  opened := hopened
  held := hheld
  stopped := hstopped

/-- R143, R157: the rest report settles the OPEN record, and the job ends. -/
theorem StoreView.Sound.press_settles (hv : v.Sound) (held : Bool) (hr : v.running = true)
    (hp : (p, RecordState.opened) ∈ v.keys) :
    StoreView.Sound { v with
      keys := restate p (if held then .held else .complete) v.keys
      held := if held then some p else v.held
      running := false } := by
  have hnone : v.held = none := hv.stopped hr
  have hempty : keysIn .held v.keys = [] := by rw [hv.held, hnone]; rfl
  refine hv.press_restated ?_ ?_ nofun
  · rw [keysIn_restate_other (by cases held <;> decide), hv.opened_eq hp]
    simp
  · cases held with
    | true => exact keysIn_restate_self hv.distinct hp hempty
    | false => simp [keysIn_restate_other, hempty, hnone]

/-- R65: the job ends where no record is OPEN. -/
theorem StoreView.Sound.job_ends (hv : v.Sound) (ho : keysIn .opened v.keys = []) :
    StoreView.Sound { v with running := false } :=
  { hv with opened := by simp [ho], stopped := nofun }

/-- R160: the HELD record is disposed of, and none is held. -/
theorem StoreView.Sound.press_disposed (hv : v.Sound) (hp : (p, RecordState.held) ∈ v.keys) :
    StoreView.Sound { v with keys := restate p .disposed v.keys, held := none } := by
  refine hv.press_restated ?_ ?_ fun _ => rfl
  · rw [keysIn_restate_other (by decide)]
    exact (List.length_filter_le _ _).trans hv.opened
  · rw [keysIn_restate_other (by decide), hv.held, hv.held_iff.2 hp]
    simp

/-- R149: a record that is not HELD leaves the store. -/
theorem StoreView.Sound.press_released (hv : v.Sound) (hp : (p, RecordState.held) ∉ v.keys) :
    StoreView.Sound { v with keys := v.keys.filter (fun k => decide (k.1 ≠ p)) } where
  capacity := (List.length_filter_le _ _).trans hv.capacity
  distinct := hv.distinct.sublist (List.filter_sublist.map _)
  range := fun k hk => hv.range k (List.mem_filter.1 hk).1
  next := hv.next
  opened := (List.filter_sublist.filter _).length_le.trans hv.opened
  held := by
    have hkept : ∀ k ∈ keysIn .held v.keys, decide (k.1 ≠ p) = true := fun k hk => by
      obtain ⟨hmem, hstate⟩ := mem_keysIn.1 hk
      refine decide_eq_true fun hpress => hp ?_
      rwa [← hpress, ← hstate]
    rw [← hv.held, keysIn, List.filter_comm]
    exact List.filter_eq_self.2 hkept
  stopped := hv.stopped

end

end Sys2Proof.Machine
end

section
/-! PROOFS. The events of the equipment leave what the invariant of the result store reads: they edit the OPEN record, but
neither its press number nor its state, and the running job, but not that it runs (R85, R90, R112). -/

namespace Sys2Proof.Machine

/-! ## The shared updates of the state -/

/-- A view in its parts. -/
theorem storeOf_eq {s t : State} (hkeys : t.store.records.map Record.key = s.store.records.map Record.key)
    (hnext : t.store.next = s.store.next) (hheld : t.qual.held = s.qual.held) (hrun : t.jobRunning = s.jobRunning) :
    storeOf t = storeOf s := by
  rw [storeOf, hkeys, hnext, hheld, hrun]
  rfl

/-- A change of the job that leaves whether it runs. -/
theorem storeOf_job {s : State} {j : Job} (j' : Job) (hj : s.job = some j) (hr : j'.run.isSome = j.run.isSome) :
    storeOf { s with job := some j' } = storeOf s :=
  storeOf_eq rfl rfl rfl (by simp [State.jobRunning, State.run, hj, hr])

/-- R137: the OPEN record edited, but for its press number and state. -/
theorem keys_onOpenRecord {f : Record → Record} (hf : ∀ r, (f r).key = r.key := by exact fun _ => rfl) {rs : List Record} :
    (onOpenRecord f rs).map Record.key = rs.map Record.key := by
  rw [onOpenRecord, List.map_map]
  exact List.map_congr_left fun r _ => by simp only [Function.comp]; split <;> simp [hf]

section
variable (s : State)

@[simp] theorem storeOf_onLink (l : Link) (f : LinkState → LinkState) : storeOf (s.onLink l f) = storeOf s := by
  cases l <;> rfl
@[simp] theorem storeOf_setRx (l : Link) (rx : Receiver) : storeOf (s.setRx l rx) = storeOf s := storeOf_onLink ..
@[simp] theorem storeOf_heard (h : Header) : storeOf (heard h s) = storeOf s := storeOf_setRx ..
@[simp] theorem storeOf_reply (l : Link) (tag : Nat) (st : Status) (b : List Wire) :
    storeOf (s.reply l tag st b) = storeOf s := storeOf_onLink ..
@[simp] theorem storeOf_refuse (l : Link) (tag : Nat) (st : Status) : storeOf (s.refuse l tag st) = storeOf s :=
  storeOf_reply ..
@[simp] theorem storeOf_raise (n : Notice) : storeOf (s.raise n) = storeOf s := rfl
@[simp] theorem storeOf_arbiters : storeOf s.arbiters = storeOf s := rfl
@[simp] theorem storeOf_onMotion (f : Motion → Motion) : storeOf (s.onMotion f) = storeOf s := rfl
@[simp] theorem storeOf_onRun (f : Run → Run) : storeOf (s.onRun f) = storeOf s :=
  storeOf_eq rfl rfl rfl (by simp [State.jobRunning])
@[simp] theorem storeOf_onHand (f : InHand → InHand) : storeOf (s.onHand f) = storeOf s := storeOf_onRun ..
@[simp] theorem storeOf_latch (enc : Int) : storeOf (s.latch enc) = storeOf s := storeOf_onHand ..
@[simp] theorem storeOf_rest (enc : Int) : storeOf (s.rest enc) = storeOf s := by simp [State.rest]

/-- An edit of the OPEN record that writes neither its press number nor its state. Every edit an event makes is seen by `rfl` to
be one, which the default of `hf` says once. -/
theorem storeOf_onRecord {f : Record → Record} (hf : ∀ r, (f r).key = r.key := by exact fun _ => rfl) :
    storeOf (s.onRecord f) = storeOf s :=
  storeOf_eq (keys_onOpenRecord hf) rfl rfl rfl

/-! ## Programs, stops and drive faults -/

@[simp] theorem storeOf_handOver : storeOf (handOver s) = storeOf s := by
  unfold handOver
  split
  · rfl
  · next j hj =>
    split
    · next r rec rest hr _ => exact storeOf_job _ hj (by simp [hr])
    · rfl

@[simp] theorem storeOf_endProgram (c : EndCause) : storeOf (endProgram c s) = storeOf s := by
  refine storeOf_eq (keys_onOpenRecord (rs := s.store.records)) rfl rfl ?_
  cases hj : s.job <;> simp [endProgram, State.jobRunning, State.run, hj]

@[simp] theorem storeOf_markRest : storeOf (markRest s) = storeOf s := storeOf_onRun ..

@[simp] theorem storeOf_beginStop (c : StopCause) (rate : Nat) (drop : Bool) (f : FollowOn) :
    storeOf (beginStop c rate drop f s) = storeOf s := rfl

@[simp] theorem storeOf_takeFollowOn : storeOf (takeFollowOn s) = storeOf s := by
  unfold takeFollowOn
  split
  · rfl
  · split
    · rfl
    · exact storeOf_markRest _
    · split
      · rfl
      · exact storeOf_markRest _

@[simp] theorem storeOf_continueProgram (last : Bool) : storeOf (continueProgram last s) = storeOf s := by
  unfold continueProgram
  split
  · rfl
  · next j _ =>
    split
    · exact (storeOf_markRest _).trans (storeOf_endProgram s (if j.pressAccepted then .completed else .noPress))
    · split
      · exact (storeOf_raise _ _).trans (storeOf_onRun _ _)
      · exact storeOf_handOver s

@[simp] theorem storeOf_closeStep (r : Run) (h : InHand) (c : EndCause) (stop : Int) :
    storeOf (closeStep r h c stop s) = storeOf s := by
  have hwritten (g : Run → Run) : storeOf ((s.onRecord fun rec => { rec with
      outcomes := rec.outcomes ++ [outcomeOf h c stop] }).onRun g) = storeOf s :=
    (storeOf_onRun _ g).trans (storeOf_onRecord s)
  simp only [closeStep]
  split <;> exact hwritten _

@[simp] theorem storeOf_endStep (c : EndCause) (stop : Int) (drop : Bool) : storeOf (endStep c stop drop s) = storeOf s := by
  simp only [endStep]
  split
  · next r h _ _ =>
    have hclose := storeOf_closeStep s r h c stop
    split
    · exact (storeOf_continueProgram _ _).trans hclose
    · split
      · exact ((storeOf_markRest _).trans (storeOf_endProgram _ _)).trans hclose
      · exact (storeOf_endProgram _ _).trans hclose
  · rfl

@[simp] theorem storeOf_endPaused (c : EndCause) (drop : Bool) : storeOf (endPaused c drop s) = storeOf s := by
  simp only [endPaused]
  split
  · simp
  · split <;> simp

@[simp] theorem storeOf_interrupt (c : EndCause) (drop : Bool) : storeOf (interrupt c drop s) = storeOf s := by
  unfold interrupt
  split
  · simp
  · split <;> simp

@[simp] theorem storeOf_endHoming (r : HomingResult) (drop : Bool) : storeOf (endHoming r drop s) = storeOf s := rfl

@[simp] theorem storeOf_driveFault (src : FaultSource) : storeOf (driveFault src s) = storeOf s := by
  simp only [driveFault, apply_ite storeOf, storeOf_endStep, storeOf_endPaused, storeOf_markRest, ite_self]
  split <;> rfl

@[simp] theorem storeOf_guardEntry (k : GuardKind) : storeOf (guardEntry k s) = storeOf s := by
  simp only [guardEntry]
  split
  case h_6 => split <;> rfl
  all_goals simp

@[simp] theorem storeOf_sensingLost : storeOf (sensingLost s) = storeOf s := by
  unfold sensingLost
  split <;> simp

@[simp] theorem storeOf_leaveReady : storeOf (leaveReady s) = storeOf s := by simp [leaveReady]

/-! ## The head -/

@[simp] theorem storeOf_abortTare : storeOf (abortTare s) = storeOf s := by
  unfold abortTare
  split
  · rfl
  · exact storeOf_refuse _ _ _ _

@[simp] theorem storeOf_beginTraining (a : Nat) : storeOf (beginTraining a s) = storeOf s := by
  simp only [beginTraining]
  split
  · exact (storeOf_leaveReady _).trans (storeOf_abortTare s)
  · exact storeOf_abortTare s

@[simp] theorem storeOf_detach : storeOf (detach s) = storeOf s := by
  simp only [detach]
  split
  · exact (storeOf_leaveReady _).trans (storeOf_abortTare s)
  · exact storeOf_abortTare s

@[simp] theorem storeOf_trainingSuccess : storeOf (trainingSuccess s) = storeOf s := by
  simp only [trainingSuccess]
  split <;> rfl

@[simp] theorem storeOf_trainingTimeout (passed : List Nat) : storeOf (trainingTimeout passed s) = storeOf s := by
  simp only [trainingTimeout]
  split <;> rfl

@[simp] theorem storeOf_descriptorAnswered (kind : Nat) (o : Orientation) :
    storeOf (descriptorAnswered kind o s) = storeOf s := by
  unfold descriptorAnswered
  split <;> rfl

@[simp] theorem storeOf_completeTare (t : Tare) : storeOf (completeTare t s) = storeOf s := storeOf_reply ..

/-! ## Samples -/

@[simp] theorem storeOf_raisePeaks (value : Nat) : storeOf (raisePeaks value s) = storeOf s := by
  unfold raisePeaks
  split
  · exact (storeOf_onRecord _).trans (storeOf_onHand s _)
  · rfl

/-- R90: the OPEN record takes the touch position, and the touch bases where it lies in the window. -/
@[simp] theorem storeOf_takeTouch (a b : Nat) (position : Int) (value : Nat) (suspect : Bool) :
    storeOf (takeTouch a b position value suspect s) = storeOf s := by
  have htouch : storeOf (s.onRecord fun r => { r with touch := some position }) = storeOf s := storeOf_onRecord s
  simp only [takeTouch]
  split
  · exact ((storeOf_endStep ..).trans (storeOf_onRecord _)).trans htouch
  · exact (storeOf_endStep ..).trans htouch

/-- R115: the OPEN record takes the seat depth of a knee that is not overtravel. -/
@[simp] theorem storeOf_takeKnee (lim : Limits) (k : Nat) (position : Int) :
    storeOf (takeKnee lim k position s) = storeOf s := by
  simp only [takeKnee]
  refine (storeOf_endStep ..).trans ?_
  split
  · rfl
  · exact storeOf_onRecord s

@[simp] theorem storeOf_ramTests (position : Int) (value : Nat) (completed : List Completion) :
    storeOf (ramTests position value completed s) = storeOf s := by
  unfold ramTests
  split
  · split
    · simp
    · split
      · simp
      · split <;> simp
  · rfl

@[simp] theorem storeOf_useRamSample (position : Int) (value : Nat) (suspect : Bool) :
    storeOf (useRamSample position value suspect s) = storeOf s := by
  simp only [useRamSample]
  split
  · split <;> simp
  · split
    · exact storeOf_ramTests ..
    · rfl

@[simp] theorem storeOf_takeRamSample (raw enc : Int) : storeOf (takeRamSample raw enc s) = storeOf s := by
  have hlatch : storeOf ((tick s).latch enc) = storeOf s := storeOf_latch _ _
  simp only [takeRamSample]
  split
  · exact ((storeOf_useRamSample ..).trans (storeOf_raisePeaks ..)).trans hlatch
  · exact hlatch

@[simp] theorem storeOf_useFinger (r : Run) (finger : List (Nat × FingerSample)) :
    storeOf (useFinger r finger s) = storeOf s := by
  have hbin : storeOf (if r.fingersGone then s
      else { s with profile := binFingers r.map s.motion.position finger s.profile }) = storeOf s := by
    split <;> rfl
  simp only [useFinger]
  split
  · split
    · exact (storeOf_endStep ..).trans hbin
    · exact hbin
  · exact hbin

/-- R112: the OPEN record's column is ABSENT from now on. -/
@[simp] theorem storeOf_positionFailed (p : Nat) : storeOf (positionFailed p s) = storeOf s := by
  unfold positionFailed
  split
  · exact (storeOf_sensingLost _).trans (storeOf_onRecord s)
  · rfl

@[simp] theorem storeOf_takeAlert (a : Alert) : storeOf (takeAlert s a) = storeOf s := by
  simp only [takeAlert]
  split
  · rfl
  · split
    · exact storeOf_positionFailed _ _
    · rfl

theorem storeOf_takeAlerts (alerts : List Alert) : storeOf (alerts.foldl takeAlert s) = storeOf s := by
  induction alerts generalizing s with
  | nil => rfl
  | cons a alerts ih => exact (ih _).trans (storeOf_takeAlert s a)

@[simp] theorem storeOf_takeFrameInstant (enc : Int) (frames : List LaneFrame) :
    storeOf (takeFrameInstant enc frames s) = storeOf s := by
  simp only [takeFrameInstant]
  refine (storeOf_takeAlerts _ _).trans ?_
  split
  · exact (storeOf_useFinger ..).trans (storeOf_latch s enc)
  · exact storeOf_latch s enc

/-! ## The ends of steps that the motion block sees, the guards, the hold -/

@[simp] theorem storeOf_takeMoveReached : storeOf (takeMoveReached s) = storeOf s := by
  unfold takeMoveReached
  repeat' split
  all_goals simp

@[simp] theorem storeOf_takeProbeArrival : storeOf (takeProbeArrival s) = storeOf s := by
  unfold takeProbeArrival
  repeat' split
  all_goals simp

@[simp] theorem storeOf_takeStall : storeOf (takeStall s) = storeOf s := by
  unfold takeStall
  repeat' split
  all_goals simp

@[simp] theorem storeOf_takeTravelLimit : storeOf (takeTravelLimit s) = storeOf s := by
  unfold takeTravelLimit
  split <;> simp

@[simp] theorem storeOf_takeRetractReached : storeOf (takeRetractReached s) = storeOf s := by
  unfold takeRetractReached
  split <;> simp

@[simp] theorem storeOf_takeGuardChange (i : Nat) (d : Debounced) : storeOf (takeGuardChange i d s) = storeOf s := by
  simp only [takeGuardChange]
  split
  · split <;> exact storeOf_guardEntry _ _
  · split <;> rfl

@[simp] theorem storeOf_takeGuardConfig (entries : List (Option GuardKind)) :
    storeOf (takeGuardConfig entries s) = storeOf s := by
  simp only [takeGuardConfig]
  repeat' split
  all_goals rfl

/-- R158: the timer's end leaves the held press number. -/
@[simp] theorem storeOf_expireHold (r : Record) : storeOf (expireHold r s) = storeOf s := by
  simp only [expireHold]
  split <;> rfl

end

end Sys2Proof.Machine
end

section
/-! PROOFS. The requests and the report that change the result store keep it sound: START, the rest report, DISPOSE and RESULT
RELEASE (R54, R55, R65, R137, R138, R142, R143, R149, R157, R160). -/

namespace Sys2Proof.Machine

section
variable {s : State}

/-! ## START (R54, R55, R138) -/

/-- R138: the number after a press number is a press number. -/
theorem pressAfter_range (n : Nat) : 1 ≤ pressAfter n ∧ pressAfter n ≤ 65535 := by
  unfold pressAfter
  split
  · next h => exact ⟨Nat.le_add_left .., h⟩
  · exact ⟨Nat.le_refl 1, by decide⟩

/-- R138: the press number of the next START is free and in range. -/
theorem newPress_free {st : Store} (hnext : 1 ≤ st.next ∧ st.next ≤ 65535) (hroom : st.records.length < 65535) :
    (1 ≤ st.newPress ∧ st.newPress ≤ 65535) ∧ ¬ PressTaken st.records st.newPress := by
  obtain ⟨k, heq, hfree, _⟩ := newPress_first_free hroom
  refine ⟨?_, hfree⟩
  rw [heq]
  cases k with
  | zero => exact hnext
  | succ k => exact Function.iterate_succ_apply' pressAfter k st.next ▸ pressAfter_range _

/-- R54: where every check of START passes, no record is HELD and the store has room. -/
theorem store_of_startChecks_none {j : Job} {e : TypeEntry} (h : startChecks s j e = none) :
    (∀ r ∈ s.store.records, r.state ≠ .held) ∧ s.store.records.length < 32 := by
  simp only [startChecks, startChecksLate] at h
  repeat' split at h
  all_goals simp_all [Config.storeCapacity]

/-- R55, R138: START opens a press under the first free number. -/
theorem openPress_keeps_store {j : Job} {e : TypeEntry} (q : QualEntry) (hrun : s.jobRunning = false)
    (hc : startChecks s j e = none) (hs : StoreSound s) : StoreSound (openPress j e q s) := by
  obtain ⟨hheld, hroom⟩ := store_of_startChecks_none hc
  obtain ⟨hrange, hfree⟩ := newPress_free hs.next (by omega : s.store.records.length < 65535)
  have hnone : s.qual.held = none := hs.held.trans (find_held_eq_none.2 fun ⟨r, hr, hstate⟩ => hheld r hr hstate)
  have hnew : s.store.newPress ∉ (s.store.records.map Record.key).map Prod.fst := by
    rw [List.map_map, List.mem_map]
    exact hfree
  have hopened : storeOf (openPress j e q s) = { storeOf s with
      keys := (storeOf s).keys ++ [(s.store.newPress, .opened)], next := pressAfter s.store.newPress, running := true } :=
    congrArg (StoreView.mk · _ _ _) List.map_append
  rw [storeSound_iff, hopened]
  exact ((storeSound_iff s).1 hs).press_opens hrun hnone ((List.length_map ..).trans_lt hroom) hrange hnew (pressAfter_range _)

theorem serveStart_keeps_store (l : Link) (tag : Nat) (hs : StoreSound s) : StoreSound (serveStart l tag s) := by
  unfold serveStart
  split
  · exact storeSound_congr (by simp) hs
  · next j hj =>
    split
    · exact storeSound_congr (by simp) hs
    · next hrun =>
      split
      · exact storeSound_congr (by simp) hs
      · split
        · exact storeSound_congr (by simp) hs
        · exact storeSound_congr (by simp) hs
        · next q hc _ =>
          have hstopped : s.jobRunning = false := by simpa [State.jobRunning, State.run, hj] using hrun
          exact storeSound_congr ((storeOf_reply ..).trans (storeOf_handOver _)) (openPress_keeps_store q hstopped hc hs)

/-! ## The rest report (R65, R143, R157) -/

/-- The key of a stored record. -/
theorem key_mem {r : Record} {st : RecordState} (hr : r ∈ s.store.records) (hst : r.state = st) :
    (r.press, st) ∈ (storeOf s).keys := List.mem_map.2 ⟨r, hr, by rw [Record.key, hst]⟩

/-- R137, R143: the OPEN record replaced is its press changed to the new state. -/
theorem keys_settled {r r' : Record} (hs : StoreSound s) (hr : r ∈ s.store.records) (hopen : r.state = .opened)
    (hpress : r'.press = r.press) : (onOpenRecord (fun _ => r') s.store.records).map Record.key
      = restate r.press r'.state (s.store.records.map Record.key) := by
  have hone : ∀ q ∈ s.store.records, q.state = .opened ↔ q.press = r.press := fun q hq => by
    refine ⟨fun hopened => ?_, fun hsame => ?_⟩
    · have hv := (storeSound_iff s).1 hs
      have hq' : q.key ∈ keysIn .opened (storeOf s).keys := mem_keysIn.2 ⟨List.mem_map_of_mem hq, hopened⟩
      rw [hv.opened_eq (key_mem hr hopen), List.mem_singleton] at hq'
      exact congrArg Prod.fst hq'
    · rwa [List.inj_on_of_nodup_map hs.distinct hq hr hsame]
  rw [onOpenRecord, restate, List.map_map, List.map_map]
  refine List.map_congr_left fun q hq => ?_
  by_cases hq' : q.state = .opened
  · simp [hq', Record.key, (hone q hq).1 hq', hpress]
  · simp [hq', Record.key, mt (hone q hq).2 hq']

theorem takeRestReport_keeps_store (hready : restReady s = true) (hs : StoreSound s) : StoreSound (takeRestReport s) := by
  have hv := (storeSound_iff s).1 hs
  have hrun : s.jobRunning = true := by
    cases hr : s.run with
    | none => simp [restReady, hr] at hready
    | some r => simp [State.jobRunning, hr]
  unfold takeRestReport
  split
  · next r hfind =>
    have hmem := List.mem_of_find?_eq_some hfind
    have hopen : r.state = .opened := by simpa using List.find?_some hfind
    obtain ⟨v, hverdict⟩ := judge_verdict s.profile s.monitor.knee r
    have hpress : (judge s.profile s.monitor.knee r).press = r.press := rfl
    generalize judge s.profile s.monitor.knee r = judged at hverdict hpress
    have hview : storeOf (announce (settleRecord judged) (dropJob s)) = { storeOf s with
        keys := restate r.press (if heldBy judged then .held else .complete) (storeOf s).keys
        held := if heldBy judged then some r.press else s.qual.held
        running := false } := by
      rw [announce_settled hverdict]
      refine congrArg₂ (StoreView.mk · _ · _) (keys_settled (s := s) hs hmem hopen hpress) ?_
      cases heldBy judged <;> simp [dropJob, Qualification.hold, hpress]
    rw [storeSound_iff, hview]
    exact hv.press_settles (heldBy judged) hrun (key_mem hmem hopen)
  · next hfind =>
    refine (storeSound_iff _).2 (hv.job_ends (keysIn_eq_nil.2 ?_))
    simpa [storeOf, Record.key] using hfind

/-! ## DISPOSE (R160) and RESULT RELEASE (R149) -/

/-- R137: the record of a press number. -/
theorem record_some {p : Nat} {r : Record} (hr : s.record p = some r) : r ∈ s.store.records ∧ r.press = p :=
  ⟨List.mem_of_find?_eq_some hr, by simpa using List.find?_some hr⟩

theorem keys_disposed (p : Nat) (d : Disposition) (rs : List Record) :
    (rs.map (disposeRecord p d)).map Record.key = restate p .disposed (rs.map Record.key) := by
  rw [restate, List.map_map, List.map_map]
  refine List.map_congr_left fun r _ => ?_
  by_cases hr : r.press = p <;> simp [disposeRecord, Record.key, hr]

theorem keys_released (p : Nat) (rs : List Record) : (rs.filter (fun r => decide (r.press ≠ p))).map Record.key
    = (rs.map Record.key).filter (fun k => decide (k.1 ≠ p)) := by
  rw [List.filter_map]
  rfl

theorem serveDispose_keeps_store (l : Link) (tag p outcome operator : Nat) (hs : StoreSound s) :
    StoreSound (serveDispose l tag p outcome operator s) := by
  unfold serveDispose
  split
  · exact storeSound_congr (by simp) hs
  · next o _ =>
    split
    · exact storeSound_congr (by simp) hs
    · split
      · exact storeSound_congr (by simp) hs
      · next r hr =>
        split
        · exact storeSound_congr (by simp) hs
        · next hstate =>
          obtain ⟨hmem, rfl⟩ := record_some hr
          rw [storeSound_iff, storeOf_reply, storeOf, keys_disposed]
          exact ((storeSound_iff s).1 hs).press_disposed (key_mem hmem (not_not.1 hstate))

theorem serveResultRelease_keeps_store (l : Link) (tag p : Nat) (hs : StoreSound s) :
    StoreSound (serveResultRelease l tag p s) := by
  unfold serveResultRelease
  split
  · exact storeSound_congr (by simp) hs
  · split
    · exact storeSound_congr (by simp) hs
    · next r hr =>
      split
      · exact storeSound_congr (by simp) hs
      · split
        · exact storeSound_congr (by simp) hs
        · next hstate =>
          obtain ⟨hmem, rfl⟩ := record_some hr
          have hv := (storeSound_iff s).1 hs
          rw [storeSound_iff, storeOf_reply, storeOf, keys_released]
          exact hv.press_released fun hheld => hstate (hv.state_unique (key_mem hmem rfl) hheld)

end

end Sys2Proof.Machine
end

section
/-! PROOFS. The result store stays sound in every step: within its capacity, its press numbers distinct and in range, with at
most one OPEN and one HELD record (R137, R138, R142, R157, R158). -/

namespace Sys2Proof.Machine

/-! ## Requests that leave what the invariant reads -/

section
variable (l : Link) (tag : Nat) (s : State)

theorem storeOf_serveMask (operation kinds : Nat) : storeOf (serveMask l tag operation kinds s) = storeOf s := by
  simp only [serveMask]
  repeat' split
  all_goals simp

theorem storeOf_serveRetrain : storeOf (serveRetrain l tag s) = storeOf s := by
  unfold serveRetrain
  repeat' split
  case isFalse.isFalse => exact (storeOf_reply ..).trans (storeOf_beginTraining _ 1)
  all_goals exact storeOf_refuse ..

theorem storeOf_serveTare : storeOf (serveTare l tag s) = storeOf s := by
  unfold serveTare
  repeat' split
  case isFalse.isFalse.isTrue => rfl
  all_goals exact storeOf_refuse ..

/-- R47: a new job is PREPARED. -/
theorem storeOf_serveJob (typeId first : Nat) (serial : List Nat) (mode : Nat) :
    storeOf (serveJob l tag typeId first serial mode s) = storeOf s := by
  have hnew (m : ProgramMode) (hj : s.job = none) :
      storeOf { s with job := some (newJob typeId first serial m) } = storeOf s :=
    storeOf_eq rfl rfl rfl (by simp [State.jobRunning, State.run, hj, newJob])
  unfold serveJob
  split
  · simp
  · simp
  · next m hj _ =>
    repeat' split
    case h_2.isFalse => exact (storeOf_reply ..).trans (hnew m hj)
    all_goals exact storeOf_refuse ..

theorem storeOf_acceptStep {j : Job} {s : State} (rec : StepRecord) (next : Grammar) (hj : s.job = some j) :
    storeOf (acceptStep j rec next s) = storeOf s := by
  have hjob : storeOf { s with job := some (j.accept rec next) } = storeOf s := storeOf_job _ hj rfl
  simp only [acceptStep]
  split
  · exact ((storeOf_handOver _).trans (storeOf_onRun _ _)).trans hjob
  · exact hjob

theorem storeOf_serveStep (offer : StepOffer) (last : Nat) : storeOf (serveStep l tag offer last s) = storeOf s := by
  simp only [serveStep]
  split
  · simp
  · next j hj =>
    repeat' split
    case h_2.isFalse.isFalse => exact (storeOf_reply ..).trans (storeOf_acceptStep _ _ (job_of_openJob hj))
    all_goals exact storeOf_refuse ..

theorem storeOf_serveStepFlush : storeOf (serveStepFlush l tag s) = storeOf s := by
  unfold serveStepFlush
  split
  · simp
  · next j hj =>
    split
    · simp
    · exact (storeOf_reply ..).trans (storeOf_job _ hj rfl)

/-- R62: STOP drops a PREPARED job alone; a RUNNING one keeps running. -/
theorem storeOf_stopJob : storeOf (stopJob s) = storeOf s := by
  unfold stopJob
  split
  · rfl
  · next j hj =>
    split
    · next hr => exact storeOf_eq rfl rfl rfl (by simp [State.jobRunning, State.run, hj, hr])
    · split
      · rfl
      · simp

theorem storeOf_serveStop : storeOf (serveStop l tag s) = storeOf s := by
  refine (storeOf_reply ..).trans ?_
  simp only [takeStop]
  split
  · exact (storeOf_endHoming ..).trans (storeOf_stopJob s)
  · exact storeOf_stopJob s

/-- R153: QUALIFY edits the qualification table, and not the held press number. -/
theorem storeOf_serveQualify (typeId headKind level interval : Nat) :
    storeOf (serveQualify l tag typeId headKind level interval s) = storeOf s := by
  unfold serveQualify qualifyAs
  repeat' split
  all_goals exact storeOf_reply ..

theorem storeOf_serveGuardConfig (codes : List Nat) : storeOf (serveGuardConfig l tag codes s) = storeOf s := by
  simp only [serveGuardConfig]
  repeat' split
  all_goals simp

end

/-! ## Every request and every frame -/

section
variable {s : State}

/-- R151, R182: an empty store with no job is sound. -/
theorem storeSound_of_reset {u : State} (hu : storeOf u = storeOf State.reset) : StoreSound u :=
  storeSound_congr hu storeSound_reset

theorem serveRestart_keeps_store (l : Link) (tag : Nat) (hs : StoreSound s) : StoreSound (serveRestart l tag s) := by
  unfold serveRestart
  split
  · exact storeSound_congr (by simp) hs
  · exact storeSound_of_reset rfl

/-- Every request keeps the store sound; those not named end each of their checks in an answer, and change no more than the
catalogue, the motion block or the hold time. -/
theorem serve_keeps_store (closed : Bool) (r : Request) (l : Link) (tag : Nat) (hs : StoreSound s) :
    StoreSound (serve closed r l tag s) := by
  cases r with
  | restart => exact serveRestart_keeps_store l tag hs
  | start => exact serveStart_keeps_store l tag hs
  | resultRelease p => exact serveResultRelease_keeps_store l tag p hs
  | dispose p o c => exact serveDispose_keeps_store l tag p o c hs
  | mask op k => exact storeSound_congr (storeOf_serveMask ..) hs
  | retrain => exact storeSound_congr (storeOf_serveRetrain ..) hs
  | tare => exact storeSound_congr (storeOf_serveTare ..) hs
  | job t f n m => exact storeSound_congr (storeOf_serveJob ..) hs
  | step o last => exact storeSound_congr (storeOf_serveStep ..) hs
  | stepFlush => exact storeSound_congr (storeOf_serveStepFlush ..) hs
  | stop => exact storeSound_congr (storeOf_serveStop ..) hs
  | qualify t k v n => exact storeSound_congr (storeOf_serveQualify ..) hs
  | guardConfig es => exact storeSound_congr (storeOf_serveGuardConfig ..) hs
  | _ =>
    refine storeSound_congr (s := s) ?_ hs
    simp only [serve, serveIdent, serveState, serveHeadMap, serveClassPut, serveClassDrop, serveClassGet, serveCataloguePut,
      serveCatalogueDrop, serveCatalogueGet, serveHome, serveRetract, serveClearFault, serveProfileRead, serveResultSummary,
      serveResultColumn, serveResultPins, serveQualifyGet, serveHoldTime]
    repeat' split
    all_goals exact storeOf_reply ..

theorem takeRequest_keeps_store (l : Link) (tag code : Nat) (body : Option Request) (closed : Bool) (hs : StoreSound s) :
    StoreSound (takeRequest l tag code body s closed) := by
  have hrx : StoreSound (s.setRx l .hunting) := storeSound_congr (storeOf_setRx ..) hs
  simp only [takeRequest]
  repeat' split
  case h_2 => exact serve_keeps_store closed _ l tag hrx
  all_goals exact storeSound_congr (by simp) hs

theorem takeFrame_keeps_store (l : Link) (bs : List Byte) (closed : Bool) (hs : StoreSound s) :
    StoreSound (takeFrame l bs closed s) := by
  unfold takeFrame
  repeat' split
  case h_1.isTrue => exact takeRequest_keeps_store l _ _ _ closed hs
  all_goals exact storeSound_congr (storeOf_setRx ..) hs

theorem receiveByte_keeps_store (l : Link) (b : Byte) (closed : Bool) (hs : StoreSound s) :
    StoreSound (receiveByte l b closed s) := by
  simp only [receiveByte]
  repeat' split
  case h_2.isFalse.isFalse => exact takeFrame_keeps_store l _ closed hs
  all_goals exact storeSound_congr (by simp) hs

end

/-! ## The step -/

/-- A command's next state has a sound store. -/
def LeavesStore (o : Host.Outcome State Fault Refusal) : Prop := ∃ u, o = done u ∧ StoreSound u

section
variable {s u v : State}

theorem leavesStore_done (h : StoreSound u) : LeavesStore (done u) := ⟨u, rfl, h⟩

/-- A command that leaves what the invariant reads. -/
theorem leavesStore_same (hs : StoreSound s) (h : storeOf u = storeOf s) : LeavesStore (done u) :=
  leavesStore_done (storeSound_congr h hs)

/-- A command that leaves what the invariant reads, taken or not. -/
theorem leavesStore_ite {c : Prop} [Decidable c] (hs : StoreSound s) (hu : storeOf u = storeOf s) (hv : storeOf v = storeOf s) :
    LeavesStore (if c then done u else done v) := by
  split
  · exact leavesStore_same hs hu
  · exact leavesStore_same hs hv

theorem execHandoverEnd_leaves_store (enc : Int) (hs : StoreSound s) : LeavesStore (execHandoverEnd s enc) := by
  simp only [execHandoverEnd]
  split
  · exact leavesStore_ite hs (by simp) (by simp)
  · exact leavesStore_same hs (by simp)

theorem execHomingComplete_leaves_store (hs : StoreSound s) : LeavesStore (execHomingComplete s) := by
  unfold execHomingComplete
  split
  · exact leavesStore_ite hs rfl rfl
  · exact leavesStore_done hs

theorem execTareComplete_leaves_store (hs : StoreSound s) : LeavesStore (execTareComplete s) := by
  unfold execTareComplete
  split
  · exact leavesStore_ite hs (by simp) rfl
  · exact leavesStore_done hs

theorem execHoldOverdue_leaves_store (hs : StoreSound s) : LeavesStore (execHoldOverdue s) := by
  unfold execHoldOverdue
  split
  · exact leavesStore_same hs (by simp)
  · exact leavesStore_done hs

theorem execRestReport_leaves_store (hs : StoreSound s) : LeavesStore (execRestReport s) := by
  unfold execRestReport
  split
  · next hready => exact leavesStore_done (takeRestReport_keeps_store hready hs)
  · exact leavesStore_done hs

theorem execUnknownRequest_leaves_store (h : Header) (code : Nat) (hs : StoreSound s) :
    LeavesStore (execUnknownRequest h code s) := by
  unfold execUnknownRequest
  split
  · exact leavesStore_done hs
  · exact leavesStore_done (takeRequest_keeps_store _ _ _ _ _ hs)

/-- A command that carries no request leaves the store sound. -/
theorem event_leaves_store {i : Instr} (hi : i.request? = none) (hs : StoreSound s) : LeavesStore (exec i s) := by
  cases i with
  | powerOn => exact leavesStore_done (storeSound_of_reset rfl)
  | unknownRequest h code => exact execUnknownRequest_leaves_store h code hs
  | frameByteReceived l b closed => exact leavesStore_done (receiveByte_keeps_store l b closed hs)
  | restReport => exact execRestReport_leaves_store hs
  | holdOverdue => exact execHoldOverdue_leaves_store hs
  | handoverEnd enc => exact execHandoverEnd_leaves_store enc hs
  | homingComplete => exact execHomingComplete_leaves_store hs
  | tareComplete => exact execTareComplete_leaves_store hs
  | frameDiscard l => exact leavesStore_same hs (storeOf_setRx ..)
  | interByteTimeout l => exact leavesStore_same hs (storeOf_setRx ..)
  | transmitFrameEnd l => exact leavesStore_same hs (storeOf_onLink ..)
  | ramSample raw enc => exact leavesStore_same hs (storeOf_takeRamSample ..)
  | moveReached enc => exact leavesStore_same hs ((storeOf_takeMoveReached _).trans (storeOf_latch _ _))
  | probeLimitArrival enc => exact leavesStore_same hs ((storeOf_takeProbeArrival _).trans (storeOf_latch _ _))
  | stall enc => exact leavesStore_same hs ((storeOf_takeStall _).trans (storeOf_latch _ _))
  | travelLimit enc => exact leavesStore_same hs ((storeOf_takeTravelLimit _).trans (storeOf_latch _ _))
  | driveFaultInput enc => exact leavesStore_same hs ((storeOf_driveFault _ _).trans (storeOf_latch s enc))
  | driveReadyPresent => exact leavesStore_same hs (storeOf_onMotion ..)
  | faultInputInactive => exact leavesStore_same hs (storeOf_onMotion ..)
  | rampOutputZero => exact leavesStore_ite hs (storeOf_onMotion ..) rfl
  | homeSwitchClosed => exact leavesStore_ite hs (storeOf_onMotion ..) rfl
  | homingRest enc => exact leavesStore_ite hs (by simp) rfl
  | homingTimeout => exact leavesStore_ite hs (storeOf_endHoming ..) rfl
  | frameInstant enc frames => exact leavesStore_ite hs (storeOf_takeFrameInstant ..) rfl
  | headAttach => exact leavesStore_ite hs (storeOf_beginTraining ..) rfl
  | trainingAttemptSuccess => exact leavesStore_ite hs (storeOf_trainingSuccess s) rfl
  | trainingAttemptTimeout passed => exact leavesStore_ite hs (storeOf_trainingTimeout s passed) rfl
  | descriptorAnswer kind o => exact leavesStore_ite hs (storeOf_descriptorAnswered s kind o) rfl
  | descriptorTimeout => exact leavesStore_ite hs rfl rfl
  | rollCallAnswer serial position kind => exact leavesStore_ite hs rfl rfl
  | rollCallClose => exact leavesStore_ite hs rfl rfl
  | underrunTimeout enc => exact leavesStore_ite hs (by simp) (storeOf_latch s enc)
  | automaticRetrain enc => exact leavesStore_ite hs (by simp) (storeOf_latch s enc)
  | headDetach enc => exact leavesStore_ite hs (storeOf_latch s enc) (by simp)
  | dwellElapsed enc => exact leavesStore_ite hs (by simp) (storeOf_latch s enc)
  | stopAtRest enc => exact leavesStore_ite hs (by simp) (storeOf_latch s enc)
  | retractReached enc => exact leavesStore_ite hs (by simp) (storeOf_latch s enc)
  | driveReadyLost enc => exact leavesStore_ite hs (by simp) (storeOf_latch s enc)
  | stopTimeout enc => exact leavesStore_ite hs (by simp) (storeOf_latch s enc)
  | guardInputChange input nowOpen enc => exact leavesStore_ite hs (by simp) (storeOf_latch s enc)
  | _ => simp [Instr.request?] at hi

/-- Every command leaves the store sound. -/
theorem exec_leaves_store (i : Instr) (hs : StoreSound s) : LeavesStore (exec i s) := by
  cases hi : i.request? with
  | none => exact event_leaves_store hi hs
  | some p =>
    rw [exec_of_request hi]
    exact leavesStore_done (takeRequest_keeps_store _ _ _ _ _ hs)

end

/-- Settles O54: START opens a record under a free press number where none is OPEN or HELD, the rest report settles it as the
job ends, DISPOSE frees the HELD one, RESULT RELEASE takes out one that is neither, a reset empties the store, and every other
command leaves what the invariant reads. -/
theorem storeStaysSound : Obligations.StoreStaysSound := by
  intro s t hs ht
  unfold step at ht
  split at ht
  · cases ht
    exact hs
  · next c rest _ =>
    obtain ⟨u, hu, hsound⟩ := exec_leaves_store c (s := { s with pending := rest }) (storeSound_congr (s := s) rfl hs)
    rw [hu] at ht
    cases ht
    exact storeSound_congr (s := u) rfl hsound

end Sys2Proof.Machine
end

section
/-! PROOFS. RESULT RELEASE: its checks in order, and the record gone (R137, R149, R174). -/

namespace Sys2Proof.Machine

section
variable {l : Link} {tag press : Nat} {s : State}

theorem exec_resultRelease_of_admitted {h : Header} (ha : admitted h (.resultRelease press) s = true) :
    exec (.resultRelease h press) s = done (serveResultRelease h.link h.tag press (heard h s)) :=
  exec_of_admitted rfl ha

/-- R174: the line link may not release a record. -/
theorem exec_resultRelease_of_line {h : Header} (hl : h.link = .line) (hr : s.line.replies.length < 8) :
    exec (.resultRelease h press) s = refusedWith h .notPermitted s := by
  have hroom : (s.link h.link).replies.length < 8 := by simpa [hl, State.link] using hr
  have hforbidden : permitted h.link (requestCode (.resultRelease press)) = false := by
    rw [hl]
    rfl
  rw [exec_of_request rfl, request_of_forbidden _ hroom hforbidden]
  rfl

/-! ## The checks and the release (R149) -/

theorem serveResultRelease_badField (h : press = 0 ∨ 65535 < press) :
    serveResultRelease l tag press s = s.refuse l tag .badField := if_pos h

section
variable {r : Record} (h1 : 1 ≤ press) (hm : press ≤ 65535)

include h1 hm

/-- R138: a press number passes the range check. -/
theorem press_in_range : ¬ (press = 0 ∨ Config.maxPress < press) := by
  simp only [Config.maxPress]
  omega

theorem serveResultRelease_notFound (hr : s.record press = none) :
    serveResultRelease l tag press s = s.refuse l tag .notFound := by
  simp only [serveResultRelease, if_neg (press_in_range h1 hm), hr]

theorem serveResultRelease_opened (hr : s.record press = some r) (hst : r.state = .opened) :
    serveResultRelease l tag press s = s.refuse l tag .busy := by
  simp only [serveResultRelease, if_neg (press_in_range h1 hm), hr, if_pos hst]

theorem serveResultRelease_held (hr : s.record press = some r) (hst : r.state = .held) :
    serveResultRelease l tag press s = s.refuse l tag .held := by
  simp [serveResultRelease, if_neg (press_in_range h1 hm), hr, hst]

theorem serveResultRelease_releases {rs : List Record} (hr : s.record press = some r) (ho : r.state ≠ .opened)
    (hh : r.state ≠ .held) (hrs : s.store.records.filter (fun r => decide (r.press ≠ press)) = rs) :
    serveResultRelease l tag press s =
      { s with store := { s.store with records := rs } }.reply l tag .ok [.u8 rs.length] := by
  simp only [serveResultRelease, if_neg (press_in_range h1 hm), hr, if_neg ho, if_neg hh, hrs]

end

/-- R137, R149: with distinct press numbers a release takes out one record. -/
theorem filter_press_ne {rs : List Record} {r : Record} (hfind : rs.find? (fun r => decide (r.press = press)) = some r)
    (hdistinct : (rs.map (·.press)).Nodup) :
    ∃ before after, rs = before ++ r :: after ∧ rs.filter (fun r => decide (r.press ≠ press)) = before ++ after := by
  have hpress : r.press = press := by simpa using List.find?_some hfind
  obtain ⟨before, after, rfl⟩ := List.append_of_mem (List.mem_of_find?_eq_some hfind)
  refine ⟨before, after, rfl, ?_⟩
  rw [List.map_append, List.map_cons, List.nodup_middle, List.nodup_cons, ← List.map_append] at hdistinct
  have hothers : ∀ q ∈ before ++ after, decide (q.press ≠ press) = true := fun q hq => by
    refine decide_eq_true fun hq' => hdistinct.1 ?_
    exact List.mem_map.2 ⟨q, hq, hq'.trans hpress.symm⟩
  rw [List.filter_append, List.filter_cons_of_neg (by simpa using hpress), ← List.filter_append]
  exact List.filter_eq_self.2 hothers

end

/-- Settles O56: the checks of RESULT RELEASE in order, and the one record of the press number taken out. -/
theorem releaseRemovesTheRecord : Obligations.ReleaseRemovesTheRecord := by
  intro h press s
  refine ⟨fun ha => ?_, fun hl hr _ => exec_resultRelease_of_line hl hr⟩
  intro found
  have hfound : (heard h s).record press = found := heard_record h s press
  rw [exec_resultRelease_of_admitted ha]
  refine ⟨fun hp => ?_, fun h1 hm => ?_⟩
  · rw [serveResultRelease_badField hp]
    rfl
  · refine ⟨fun hn => ?_, fun r hr => ⟨fun ho => ?_, fun hh => ?_, fun ho hh hdistinct => ?_⟩⟩
    · rw [serveResultRelease_notFound h1 hm (hfound.trans hn)]
      rfl
    · rw [serveResultRelease_opened h1 hm (hfound.trans hr) ho]
      rfl
    · rw [serveResultRelease_held h1 hm (hfound.trans hr) hh]
      rfl
    · obtain ⟨before, after, hsplit, hreleased⟩ := filter_press_ne hr hdistinct
      have hcount : (before ++ after).length = s.store.records.length - 1 := by simp [hsplit]
      refine ⟨before, after, hsplit, ?_⟩
      rw [serveResultRelease_releases h1 hm (hfound.trans hr) ho hh (by rw [heard_store, hreleased]), hcount, heard_store]
      rfl

end Sys2Proof.Machine
end

section
/-! PROOFS. QUALIFY and QUALIFY GET: the checks in order, what each level does to the table, and what the table reads as (R152 to
R154). -/

namespace Sys2Proof.Machine

theorem exec_qualify_of_admitted {h : Header} {id kind code n : Nat} {s : State}
    (ha : admitted h (.qualify id kind code n) s = true) :
    exec (.qualify h id kind code n) s = done (serveQualify h.link h.tag id kind code n (heard h s)) := exec_of_admitted rfl ha

theorem exec_qualifyGet_of_admitted {h : Header} {id kind : Nat} {s : State} (ha : admitted h (.qualifyGet id kind) s = true) :
    exec (.qualifyGet h id kind) s = done (serveQualifyGet h.link h.tag id kind (heard h s)) := exec_of_admitted rfl ha

/-! ## The fields (R152, R153) -/

/-- R152: a type id and a head kind that an entry can have. -/
def QualPlace (id kind : Nat) : Prop := 1 ≤ id ∧ id ≤ 9999 ∧ 1 ≤ kind ∧ kind ≤ 15

/-- R153: check 1 of QUALIFY. The interval counts where the level is not NONE. -/
def QualifyFields (id kind code n : Nat) : Prop := QualPlace id kind ∧ code ≤ 3 ∧ (code = 3 ∨ 1 ≤ n ∧ n ≤ 99)

/-- R153: the codes of the levels. -/
theorem levelOf_eq_some_iff {code : Nat} {v : Option Level} :
    levelOf code = some v ↔ (code, v) ∈ [(0, some Level.q1), (1, some .q2), (2, some .qp), (3, none)] := by
  unfold levelOf
  split <;> simp_all [eq_comm]

/-- R153: a code at most 3 is that of a level or of NONE. -/
theorem levelOf_eq_none_iff : ∀ {code : Nat}, levelOf code = none ↔ 3 < code
  | 0 | 1 | 2 | 3 => by simp [levelOf]
  | n + 4 => iff_of_true rfl (by omega)

/-- R153: in-range fields name a level or NONE. -/
theorem exists_level {id kind code n : Nat} (hf : QualifyFields id kind code n) : ∃ v, levelOf code = some v := by
  obtain ⟨_, hcode, _⟩ := hf
  exact Option.ne_none_iff_exists'.1 (mt levelOf_eq_none_iff.1 (Nat.not_lt.2 hcode))

/-- R153: the code of NONE. -/
theorem levelOf_isNone_iff {code : Nat} {v : Option Level} (hv : levelOf code = some v) : v.isNone = true ↔ code = 3 := by
  rw [levelOf_eq_some_iff] at hv
  fin_cases hv <;> simp

/-- R153: with the level known, check 1 as QUALIFY makes it. -/
theorem qualifyFields_iff {id kind code n : Nat} {v : Option Level} (hv : levelOf code = some v) :
    (between 1 9999 id && between 1 15 kind && (v.isNone || between 1 99 n)) = true ↔ QualifyFields id kind code n := by
  have hcode : code ≤ 3 := Nat.not_lt.1 fun h => by simp [levelOf_eq_none_iff.2 h] at hv
  simp only [Bool.and_eq_true, Bool.or_eq_true, between_iff, levelOf_isNone_iff hv, QualifyFields, QualPlace, hcode, true_and,
    and_assoc]

/-! ## QUALIFY (R153) -/

section
variable {l : Link} {tag id kind code key n : Nat} {s : State} {v : Option Level}

theorem serveQualify_badField (hf : ¬ QualifyFields id kind code n) :
    serveQualify l tag id kind code n s = s.refuse l tag .badField := by
  cases hv : levelOf code with
  | none => simp only [serveQualify, hv]
  | some v =>
    have hfails := Bool.eq_false_iff.2 (mt (qualifyFields_iff hv).1 hf)
    simp only [serveQualify, hv, hfails, Bool.not_false, if_true]

/-- R153: past check 1 the type is looked up. -/
theorem serveQualify_checked (hv : levelOf code = some v) (hf : QualifyFields id kind code n) :
    serveQualify l tag id kind code n s =
      if tabGet s.cat.types id = none then s.refuse l tag .notFound else qualifyAs l tag (qualKey id kind) n v s := by
  have hpass := (qualifyFields_iff hv).2 hf
  simp only [serveQualify, hv, hpass, Bool.not_true, Bool.false_eq_true, if_false, Option.isNone_iff_eq_none]

theorem qualifyAs_noEntry (hk : tabGet s.qual.table key = none) :
    qualifyAs l tag key n none s = s.reply l tag .ok [.u8 3, .u8 s.qual.table.length] := by
  simp only [qualifyAs, hk, qualifyReply]

theorem qualifyAs_removes (hk : tabGet s.qual.table key ≠ none) : qualifyAs l tag key n none s =
    { s with qual := { s.qual with table := tabDrop s.qual.table key } }.reply l tag .ok
      [.u8 2, .u8 (tabDrop s.qual.table key).length] := by
  obtain ⟨q, hq⟩ := Option.ne_none_iff_exists'.1 hk
  simp only [qualifyAs, hq, qualifyReply, State.onQuals]

theorem qualifyAs_full {v : Level} (hk : tabGet s.qual.table key = none) (hl : 128 ≤ s.qual.table.length) :
    qualifyAs l tag key n (some v) s = s.refuse l tag .full := by
  simp only [qualifyAs, hk]
  exact if_neg (Nat.not_lt.2 hl)

/-- R153: an entry is created where there is room, or replaced. -/
theorem qualifyAs_puts {v : Level} {table : List (Nat × QualEntry)}
    (hroom : tabGet s.qual.table key ≠ none ∨ s.qual.table.length < 128)
    (ht : table = tabPut s.qual.table key { level := v, interval := n, count := 0 }) :
    qualifyAs l tag key n (some v) s = { s with qual := { s.qual with table := table } }.reply l tag .ok
      [.u8 (if tabGet s.qual.table key = none then 0 else 1), .u8 table.length] := by
  subst ht
  cases hk : tabGet s.qual.table key with
  | none =>
    have hl : s.qual.table.length < Config.qualCapacity := hroom.resolve_left (by simp [hk])
    simp only [qualifyAs, hk, if_pos hl, qualifyReply, State.onQuals, if_true]
  | some q => simp only [qualifyAs, hk, qualifyReply, State.onQuals, reduceCtorEq, if_false]

/-! ## QUALIFY GET (R154) -/

theorem serveQualifyGet_directory : serveQualifyGet l tag 0 kind s = s.reply l tag .ok (qualDirectory s.qual.table) := rfl

/-- R154: with a type id given, the place as QUALIFY GET checks it. -/
theorem qualPlace_iff (hid : id ≠ 0) : (decide (id ≤ 9999) && between 1 15 kind) = true ↔ QualPlace id kind := by
  simp only [Bool.and_eq_true, decide_eq_true_eq, between_iff, QualPlace, Nat.one_le_iff_ne_zero.2 hid, true_and]

theorem serveQualifyGet_badField (hid : id ≠ 0) (hp : ¬ QualPlace id kind) :
    serveQualifyGet l tag id kind s = s.refuse l tag .badField := by
  have hfails := Bool.eq_false_iff.2 (mt (qualPlace_iff hid).1 hp)
  simp only [serveQualifyGet, if_neg hid, hfails, Bool.not_false, if_true]

theorem serveQualifyGet_notFound (hp : QualPlace id kind) (hk : tabGet s.qual.table (qualKey id kind) = none) :
    serveQualifyGet l tag id kind s = s.refuse l tag .notFound := by
  have hid : id ≠ 0 := Nat.one_le_iff_ne_zero.1 hp.1
  simp only [serveQualifyGet, if_neg hid, (qualPlace_iff hid).2 hp, Bool.not_true, Bool.false_eq_true, if_false, hk]

theorem serveQualifyGet_entry {q : QualEntry} (hp : QualPlace id kind)
    (hk : tabGet s.qual.table (qualKey id kind) = some q) :
    serveQualifyGet l tag id kind s = s.reply l tag .ok (qualWire q) := by
  have hid : id ≠ 0 := Nat.one_le_iff_ne_zero.1 hp.1
  simp only [serveQualifyGet, if_neg hid, (qualPlace_iff hid).2 hp, Bool.not_true, Bool.false_eq_true, if_false, hk]

end

/-- Settles O57: QUALIFY refuses by its first failing check, and else the level and the entry present say what it does to the
table; QUALIFY GET reads the table or one entry of it. -/
theorem qualifyEditsTheTable : Obligations.QualifyEditsTheTable := by
  intro h id kind code n s key fits
  have hcat : (heard h s).cat = s.cat := heard_cat h s
  have hqual : (heard h s).qual = s.qual := heard_qual h s
  refine ⟨fun ha => ?_, fun ha => ?_⟩
  · rw [exec_qualify_of_admitted ha]
    have hchecked : ∀ v, levelOf code = some v → QualifyFields id kind code n → tabGet s.cat.types id ≠ none →
        serveQualify h.link h.tag id kind code n (heard h s) = qualifyAs h.link h.tag key n v (heard h s) :=
      fun v hv hf ht => (serveQualify_checked hv hf).trans (if_neg (hcat ▸ ht))
    refine ⟨fun hf => ?_, fun hf ht => ?_, fun hf ht => ⟨fun hc hk => ?_, fun hc hk => ?_, fun hc hk hl => ?_,
      fun v hv hroom => ?_⟩⟩
    · rw [serveQualify_badField hf]
      rfl
    · obtain ⟨v, hv⟩ := exists_level hf
      rw [serveQualify_checked hv hf, if_pos (hcat ▸ ht)]
      rfl
    · rw [hchecked none (hc ▸ rfl) hf ht, qualifyAs_noEntry (hqual ▸ hk), hqual]
      rfl
    · refine ⟨tabDrop s.qual.table key, tabGet_tabDrop_self _ _, fun k hne => tabGet_tabDrop_other _ _ hne, ?_⟩
      rw [hchecked none (hc ▸ rfl) hf ht, qualifyAs_removes (hqual ▸ hk), hqual]
      rfl
    · obtain ⟨v, hv⟩ := exists_level hf
      have hsome : v ≠ none := fun hnone => hc ((levelOf_isNone_iff hv).1 (by simp [hnone]))
      obtain ⟨v, rfl⟩ := Option.ne_none_iff_exists'.1 hsome
      rw [hchecked _ hv hf ht, qualifyAs_full (hqual ▸ hk) (hqual ▸ hl)]
      rfl
    · have hlevel : levelOf code = some (some v) := levelOf_eq_some_iff.2 (by simp_all)
      refine ⟨tabPut s.qual.table key { level := v, interval := n, count := 0 }, tabGet_tabPut_self _ _ _,
        fun k hne => tabGet_tabPut_other _ _ _ hne, tabSorted_tabPut _ _, ?_⟩
      rw [hchecked _ hlevel hf ht, qualifyAs_puts (hqual ▸ hroom) (by rw [hqual]), hqual]
      rfl
  · rw [exec_qualifyGet_of_admitted ha]
    refine ⟨fun hid => ?_, fun hid hf => ?_, fun hf hk => ?_, fun hf q hq => ?_⟩
    · rw [hid, serveQualifyGet_directory, hqual]
      rfl
    · rw [serveQualifyGet_badField hid hf]
      rfl
    · rw [serveQualifyGet_notFound hf (hqual ▸ hk)]
      rfl
    · rw [serveQualifyGet_entry hf (hqual ▸ hq)]
      rfl

end Sys2Proof.Machine
end

section
/-! PROOFS. The hold: DISPOSE, the expiry of the hold-overdue timer, HOLD TIME (R158 to R160). -/

namespace Sys2Proof.Machine

theorem exec_dispose_of_admitted {h : Header} {press code operator : Nat} {s : State}
    (ha : admitted h (.dispose press code operator) s = true) :
    exec (.dispose h press code operator) s = done (serveDispose h.link h.tag press code operator (heard h s)) :=
  exec_of_admitted rfl ha

theorem exec_holdTime_of_admitted {h : Header} {seconds : Nat} {s : State} (ha : admitted h (.holdTime seconds) s = true) :
    exec (.holdTime h seconds) s = done (serveHoldTime h.link h.tag seconds (heard h s)) := exec_of_admitted rfl ha

/-! ## DISPOSE (R160) -/

/-- R160: check 1 of DISPOSE. -/
def DisposeFields (press code operator : Nat) : Prop := 1 ≤ press ∧ press ≤ 65535 ∧ code ≤ 2 ∧ operator ≤ 9999

/-- R160: the codes of the outcomes. -/
theorem disposeOf_eq_some_iff {code : Nat} {o : DisposeOutcome} :
    disposeOf code = some o ↔ (code, o) ∈ [(0, DisposeOutcome.accepted), (1, .rework), (2, .scrap)] := by
  unfold disposeOf
  split <;> simp_all [eq_comm]

/-- R160: a code at most 2 is that of an outcome. -/
theorem disposeOf_eq_none_iff : ∀ {code : Nat}, disposeOf code = none ↔ 2 < code
  | 0 | 1 | 2 => by simp [disposeOf]
  | n + 3 => iff_of_true rfl (by omega)

/-- R160: with the outcome known, check 1 as DISPOSE makes it. -/
theorem disposeFields_iff {press code operator : Nat} {o : DisposeOutcome} (ho : disposeOf code = some o) :
    (between 1 Config.maxPress press && decide (operator ≤ 9999)) = true ↔ DisposeFields press code operator := by
  have hcode : code ≤ 2 := Nat.not_lt.1 fun h => by simp [disposeOf_eq_none_iff.2 h] at ho
  simp only [Bool.and_eq_true, between_iff, decide_eq_true_eq, Config.maxPress, DisposeFields, hcode, true_and, and_assoc]

section
variable {l : Link} {tag press code operator seconds : Nat} {s : State} {r : Record} {o : DisposeOutcome}

theorem serveDispose_badField (hf : ¬ DisposeFields press code operator) :
    serveDispose l tag press code operator s = s.refuse l tag .badField := by
  cases ho : disposeOf code with
  | none => simp only [serveDispose, ho]
  | some o =>
    have hfails := Bool.eq_false_iff.2 (mt (disposeFields_iff ho).1 hf)
    simp only [serveDispose, ho, hfails, Bool.not_false, if_true]

section
variable (hf : DisposeFields press code operator)

include hf

/-- R160: in-range fields name an outcome. -/
theorem exists_disposeOutcome : ∃ o, disposeOf code = some o := by
  obtain ⟨_, _, hcode, _⟩ := hf
  exact Option.ne_none_iff_exists'.1 (mt disposeOf_eq_none_iff.1 (Nat.not_lt.2 hcode))

theorem serveDispose_notFound (hr : s.record press = none) :
    serveDispose l tag press code operator s = s.refuse l tag .notFound := by
  obtain ⟨o, ho⟩ := exists_disposeOutcome hf
  simp only [serveDispose, ho, (disposeFields_iff ho).2 hf, Bool.not_true, Bool.false_eq_true, if_false, hr]

theorem serveDispose_notHeld (hr : s.record press = some r) (hst : r.state ≠ .held) :
    serveDispose l tag press code operator s = s.refuse l tag .notHeld := by
  obtain ⟨o, ho⟩ := exists_disposeOutcome hf
  simp only [serveDispose, ho, (disposeFields_iff ho).2 hf, Bool.not_true, Bool.false_eq_true, if_false, hr, if_pos hst]

/-- R160: the disposition joins the HELD record, and none is held. -/
theorem serveDispose_disposes (ho : disposeOf code = some o) (hr : s.record press = some r) (hst : r.state = .held) :
    serveDispose l tag press code operator s = { s with
      store := { s.store with records := s.store.records.map (disposeRecord press { outcome := o, operator := operator }) }
      qual := s.qual.free }.reply l tag .ok [.u16 press] := by
  simp only [serveDispose, ho, (disposeFields_iff ho).2 hf, Bool.not_true, Bool.false_eq_true, if_false, hr,
    if_neg (not_not.2 hst)]

end

/-! ## The hold-overdue timer (R158) -/

/-- R158: the timer has run out. -/
def Qualification.expire (q : Qualification) : Qualification := { q with timer := .expired, remaining := none, overdue := true }

theorem expireHold_eq (r : Record) (s : State) : expireHold r s =
    if s.qual.overdue = true then { s with qual := s.qual.expire }
    else { s with qual := s.qual.expire }.raise
      (.holdOverdue r.press (r.verdict.getD .accept) r.audit (s.qual.startedWith.getD 0)) := rfl

theorem exec_holdOverdue_running (ht : s.qual.timer = .running) (hheld : s.qual.held = some press)
    (hr : s.record press = some r) : exec .holdOverdue s = done (expireHold r s) := by
  change execHoldOverdue s = _
  simp only [execHoldOverdue, ht, hheld, Option.bind_some, hr]

theorem exec_holdOverdue_still (ht : s.qual.timer ≠ .running) : exec .holdOverdue s = done s := by
  change execHoldOverdue s = _
  unfold execHoldOverdue
  split
  · next hrunning _ => exact absurd hrunning ht
  · rfl

/-! ## HOLD TIME (R159) -/

theorem serveHoldTime_reads : serveHoldTime l tag 0 s = s.reply l tag .ok [.u16 s.qual.holdTime] := rfl

/-- R159: a hold time given is set where it is in range. -/
theorem serveHoldTime_given (hne : seconds ≠ 0) : serveHoldTime l tag seconds s =
    if 10 ≤ seconds ∧ seconds ≤ 600 then
      { s with qual := { s.qual with holdTime := seconds } }.reply l tag .ok [.u16 seconds]
    else s.refuse l tag .badField := by
  simp only [serveHoldTime, if_neg hne, between_iff]

end

/-- Settles O58: DISPOSE refuses by its first failing check and else ends the hold; the timer's expiry raises its notice unless
the hold was overdue before; HOLD TIME by its ranges. -/
theorem holdEndsWithADisposition : Obligations.HoldEndsWithADisposition := by
  intro h press code operator seconds s found
  have hfound : (heard h s).record press = found := heard_record h s press
  refine ⟨fun ha => ?_, fun r v t htimer hheld hr hv ht => ?_, exec_holdOverdue_still, fun ha => ?_⟩
  · rw [exec_dispose_of_admitted ha]
    refine ⟨fun hf => ?_, fun hf hn => ?_, fun hf r hr hst => ?_, fun hf r o hr hst ho => ?_⟩
    · rw [serveDispose_badField hf]
      rfl
    · rw [serveDispose_notFound hf (hfound.trans hn)]
      rfl
    · rw [serveDispose_notHeld hf (hfound.trans hr) hst]
      rfl
    · rw [serveDispose_disposes hf (disposeOf_eq_some_iff.2 ho) (hfound.trans hr) hst, heard_store, heard_qual]
      rfl
  · obtain ⟨_, hpress⟩ := record_some hr
    rw [exec_holdOverdue_running htimer hheld hr, expireHold_eq, hpress, hv, ht]
    refine ⟨fun hfirst => ?_, fun hagain => ?_⟩
    · rw [if_neg (by simp [hfirst])]
      rfl
    · rw [if_pos hagain]
      rfl
  · rw [exec_holdTime_of_admitted ha]
    refine ⟨fun h0 => ?_, fun h10 h600 => ?_, fun hout => ?_⟩
    · rw [h0, serveHoldTime_reads, heard_qual]
      rfl
    · rw [serveHoldTime_given (by omega), if_pos ⟨h10, h600⟩, heard_qual]
      rfl
    · rw [serveHoldTime_given (by omega), if_neg (by omega)]
      rfl

end Sys2Proof.Machine
end

section
/-! PROOFS. GUARD CONFIG: its entries, its checks, and the open-guard set brought into line with new kinds (R165, R166, R170,
R171). -/

namespace Sys2Proof.Machine

theorem exec_guardConfig_of_admitted {h : Header} {codes : List Nat} {s : State}
    (ha : admitted h (.guardConfig codes) s = true) :
    exec (.guardConfig h codes) s = done (serveGuardConfig h.link h.tag codes (heard h s)) := exec_of_admitted rfl ha

/-! ## The entries (R170) -/

/-- R170: the kind that an entry asks for; none is KEEP. -/
def entryKind (c : Nat) : Option GuardKind := (guardEntryOf c).join

/-- R170: the kind of an input after an entry, in the entry's code. -/
def kindAfter (k : GuardKind) (c : Nat) : GuardKind :=
  if c = 0 then .absent else if c = 1 then .door else if c = 2 then .curtain else if c = 3 then .estop else k

/-- R170: the codes 0 to 4 are entries. -/
theorem guardEntryOf_isSome_iff : ∀ {c : Nat}, (guardEntryOf c).isSome = true ↔ c ≤ 4
  | 0 | 1 | 2 | 3 | 4 => by simp [guardEntryOf]
  | n + 5 => by simp [guardEntryOf]

/-- R170: an entry in range is read as the kind it asks for. -/
theorem guardEntryOf_of_le {c : Nat} (hc : c ≤ 4) : guardEntryOf c = some (entryKind c) := by
  obtain ⟨e, he⟩ := Option.isSome_iff_exists.1 (guardEntryOf_isSome_iff.2 hc)
  simp [entryKind, he]

/-- R170: KEEP is code 4. -/
theorem entryKind_isNone_iff : ∀ {c : Nat}, c ≤ 4 → ((entryKind c).isNone = true ↔ c = 4)
  | 0, _ | 1, _ | 2, _ | 3, _ | 4, _ => by simp [entryKind, guardEntryOf]

/-- R170: KEEP leaves the kind; another entry sets it. -/
theorem entryKind_getD (k : GuardKind) : ∀ c : Nat, (entryKind c).getD k = kindAfter k c
  | 0 | 1 | 2 | 3 | 4 | _ + 5 => rfl

section
variable {codes : List Nat}

/-- R170: every entry can be read exactly where every code is in range. -/
theorem guardEntries_length_iff :
    ((codes.map guardEntryOf).filterMap id).length = codes.length ↔ ∀ c ∈ codes, c ≤ 4 := by
  rw [List.filterMap_map, Function.id_comp, List.filterMap_length_eq_length]
  simp only [guardEntryOf_isSome_iff]

/-- R170: codes in range are read one by one. -/
theorem guardEntries_eq (hf : ∀ c ∈ codes, c ≤ 4) :
    (codes.map guardEntryOf).filterMap id = codes.map entryKind := by
  rw [List.filterMap_map, Function.id_comp, List.filterMap_congr fun c hc => guardEntryOf_of_le (hf c hc)]
  exact congrFun List.filterMap_eq_map codes

/-- R170: entries that are all KEEP. -/
theorem guardEntries_keep_iff (hf : ∀ c ∈ codes, c ≤ 4) :
    (codes.map entryKind).all Option.isNone = true ↔ ∀ c ∈ codes, c = 4 := by
  rw [List.all_map, List.all_eq_true]
  exact forall₂_congr fun c hc => entryKind_isNone_iff (hf c hc)

end

/-! ## The set brought into line with the kinds (R165, R166, R171) -/

/-- R170: the guard unit with the kinds that a GUARD CONFIG asks for. -/
def Guards.configured (codes : List Nat) (g : Guards) : Guards := { g with kinds := g.kinds.zipWith kindAfter codes }

/-- R170: the kinds by the entries are the kinds by their codes. -/
theorem configKinds_entryKind (kinds : List GuardKind) (codes : List Nat) :
    configKinds kinds (codes.map entryKind) = kinds.zipWith kindAfter codes := by
  simp only [configKinds, List.zipWith_map_right, entryKind_getD]

section
variable {codes : List Nat} {i : Nat} {rest before : List Nat} {s : State}

/-- R165, R166, R171: new kinds make the set non-empty; its lowest input is taken as the one that entered. -/
theorem takeGuardConfig_opens (hb : s.openSet = []) (ha : (s.guards.configured codes).openSet = i :: rest) :
    takeGuardConfig (codes.map entryKind) s = guardOpened i { s with guards := s.guards.configured codes } := by
  rw [State.openSet] at hb
  rw [Guards.configured] at ha
  simp only [takeGuardConfig, configKinds_entryKind, State.openSet, hb, ha, if_true, Guards.configured]

/-- R165, R166, R171: new kinds empty the set; its highest input is taken as the one that left, of the kind it had. -/
theorem takeGuardConfig_closes (hb : s.openSet = before ++ [i]) (ha : (s.guards.configured codes).openSet = []) :
    takeGuardConfig (codes.map entryKind) s =
      guardClosed i (s.guards.kind i) { s with guards := s.guards.configured codes } := by
  rw [State.openSet] at hb
  rw [Guards.configured] at ha
  have hne : before ++ [i] ≠ [] := by simp
  simp only [takeGuardConfig, configKinds_entryKind, State.openSet, hb, ha, if_neg hne, if_true, List.getLast?_concat,
    Guards.configured]

/-- R171: new kinds that neither fill an empty set nor empty it change nothing but themselves. -/
theorem takeGuardConfig_stays (hs : s.openSet = [] ↔ (s.guards.configured codes).openSet = []) :
    takeGuardConfig (codes.map entryKind) s = { s with guards := s.guards.configured codes } := by
  rw [State.openSet, Guards.configured] at hs
  simp only [takeGuardConfig, configKinds_entryKind, State.openSet, Guards.configured]
  by_cases hb : s.guards.openSet = []
  · simp only [hb, hs.1 hb, if_true]
  · rw [if_neg hb, if_neg (mt hs.2 hb)]

end

/-! ## The checks (R170) -/

/-- R170: the states in which new kinds are taken: UNHOMED, IDLE or FAULTED, and no job running. -/
@[reducible] def TakesKinds (s : State) : Prop :=
  (s.motion.stroke = .unhomed ∨ s.motion.stroke = .idle ∨ s.motion.stroke = .faulted) ∧ s.run = none

theorem heard_takesKinds_iff (h : Header) (s : State) : TakesKinds (heard h s) ↔ TakesKinds s := by
  simp only [TakesKinds, heard_motion, heard_run]

section
variable {l : Link} {tag : Nat} {codes : List Nat} {s : State}

theorem serveGuardConfig_badField (hf : ¬ ∀ c ∈ codes, c ≤ 4) :
    serveGuardConfig l tag codes s = s.refuse l tag .badField := if_pos (.inl (mt guardEntries_length_iff.1 hf))

section
variable (hl : codes.length = 8)

include hl

/-- R170: past the check of the fields. -/
theorem serveGuardConfig_checked (hf : ∀ c ∈ codes, c ≤ 4) : serveGuardConfig l tag codes s =
    if ∀ c ∈ codes, c = 4 then s.reply l tag .ok (guardWire s.guards)
    else if TakesKinds s then
      (takeGuardConfig (codes.map entryKind) s).reply l tag .ok
        (guardWire (takeGuardConfig (codes.map entryKind) s).guards)
    else s.refuse l tag .busy := by
  have hpass : ¬ ((codes.map entryKind).length ≠ codes.length ∨ codes.length ≠ 8) := by simp [hl]
  simp only [serveGuardConfig, guardEntries_eq hf, if_neg hpass, guardEntries_keep_iff hf, State.jobRunning,
    Bool.not_eq_true, Option.isSome_eq_false_iff, Option.isNone_iff_eq_none]

theorem serveGuardConfig_keeps_kinds (hk : ∀ c ∈ codes, c = 4) :
    serveGuardConfig l tag codes s = s.reply l tag .ok (guardWire s.guards) :=
  (serveGuardConfig_checked hl fun c hc => (hk c hc).le).trans (if_pos hk)

section
variable (hf : ∀ c ∈ codes, c ≤ 4) (hk : ¬ ∀ c ∈ codes, c = 4)

include hf hk

theorem serveGuardConfig_busy (hs : ¬ TakesKinds s) : serveGuardConfig l tag codes s = s.refuse l tag .busy := by
  rw [serveGuardConfig_checked hl hf, if_neg hk, if_neg hs]

/-- R170, R171: new kinds are taken, and the reply shows what they led to. -/
theorem serveGuardConfig_takes {u : State} (hs : TakesKinds s) (hu : takeGuardConfig (codes.map entryKind) s = u) :
    serveGuardConfig l tag codes s = u.reply l tag .ok (guardWire u.guards) := by
  rw [serveGuardConfig_checked hl hf, if_neg hk, if_pos hs, hu]

end

end

end

/-- Settles O60: the fields, then KEEP alone, then the stroke and the job; kinds taken fill the set, empty it, or do neither. -/
theorem guardConfigSetsTheKinds : Obligations.GuardConfigSetsTheKinds := by
  intro h codes s ha hl reply fields keeps still _ cfg
  have hguards : (heard h s).guards = s.guards := heard_guards h s
  have hset : (heard h s).openSet = s.openSet := congrArg Guards.openSet hguards
  have hcfg : (heard h s).guards.configured codes = cfg := congrArg (Guards.configured codes) hguards
  have hstill : TakesKinds (heard h s) ↔ still := heard_takesKinds_iff h s
  rw [exec_guardConfig_of_admitted ha]
  refine ⟨fun hf => ?_, fun hk => ?_, fun hf hk hs => ?_, fun hf hk hs => ⟨fun i rest hb hafter => ?_,
    fun i before hb hafter => ?_, fun hsame => ?_⟩⟩
  · rw [serveGuardConfig_badField hf]
    rfl
  · rw [serveGuardConfig_keeps_kinds hl hk, hguards]
    rfl
  · rw [serveGuardConfig_busy hl hf hk (mt hstill.1 hs)]
    rfl
  · rw [serveGuardConfig_takes hl hf hk (hstill.2 hs) (takeGuardConfig_opens (hset.trans hb) (hcfg ▸ hafter)), hcfg]
    simp only [guardOpened, State.openSet, hafter]
    rfl
  · rw [serveGuardConfig_takes hl hf hk (hstill.2 hs) (takeGuardConfig_closes (hset.trans hb) (hcfg ▸ hafter)), hcfg, hguards]
    rfl
  · rw [serveGuardConfig_takes hl hf hk (hstill.2 hs) (takeGuardConfig_stays (by rw [hset, hcfg]; exact hsame)), hcfg]
    rfl

end Sys2Proof.Machine
end

section
/-! PROOFS. A notice raised on a link: masked, entered at the end, or coalesced in its place (R176). -/

namespace Sys2Proof.Machine

/-! ## The pending-notice map (R176) -/

/-- A notice of a kind that is not pending is entered at the end. -/
theorem enterNotice_new {n : Notice} {ps : List PendingNotice} (h : ∀ p ∈ ps, noticeKind p.notice ≠ noticeKind n) :
    enterNotice n ps = ps ++ [{ notice := n, count := 1 }] := by
  induction ps with
  | nil => rfl
  | cons p ps ih => rw [enterNotice, if_neg (h p List.mem_cons_self), ih fun q hq => h q (List.mem_cons_of_mem _ hq)]; rfl

/-- A notice of a pending kind replaces that entry's payload in its place and raises its count. -/
theorem enterNotice_pending {n : Notice} {a b : List PendingNotice} {p : PendingNotice}
    (hp : noticeKind p.notice = noticeKind n) (ha : ∀ q ∈ a, noticeKind q.notice ≠ noticeKind n) :
    enterNotice n (a ++ p :: b) = a ++ { notice := n, count := min 255 (p.count + 1) } :: b := by
  induction a with
  | nil => exact if_pos hp
  | cons q a ih =>
    rw [List.cons_append, enterNotice, if_neg (ha q List.mem_cons_self), ih fun x hx => ha x (List.mem_cons_of_mem _ hx)]
    rfl

/-- A kind is either not pending, or a first entry is of that kind. -/
theorem first_of_kind (n : Notice) (ps : List PendingNotice) : (∀ p ∈ ps, noticeKind p.notice ≠ noticeKind n)
    ∨ ∃ a p b, ps = a ++ p :: b ∧ noticeKind p.notice = noticeKind n ∧ ∀ q ∈ a, noticeKind q.notice ≠ noticeKind n := by
  cases hf : ps.find? (fun p => decide (noticeKind p.notice = noticeKind n)) with
  | none => exact .inl (by simpa using hf)
  | some p =>
    obtain ⟨hp, a, b, hps, ha⟩ := List.find?_eq_some_iff_append.1 hf
    exact .inr ⟨a, p, b, hps, by simpa using hp, by simpa using ha⟩

/-! ## One link -/

theorem raiseOn_masked {n : Notice} {k : LinkState} (h : noticeKind n ∉ k.mask) : raiseOn n k = k := if_neg h

theorem raiseOn_held {n : Notice} {k : LinkState} (h : noticeKind n ∈ k.mask) :
    raiseOn n k = { k with notices := enterNotice n k.notices } := if_pos h

/-- Settles O9: by the mask, and by the first pending notice of the kind. -/
theorem noticeIsEnteredOrCoalesced : Obligations.NoticeIsEnteredOrCoalesced := by
  refine fun n s => ⟨rfl, fun k => ⟨raiseOn_masked, fun hm hnew => ?_, fun hm a p b hk hp ha => ?_⟩⟩
  · rw [raiseOn_held hm, enterNotice_new hnew]
  · rw [raiseOn_held hm, hk, enterNotice_pending hp ha]

/-! ## What raising a notice keeps -/

@[simp] theorem raiseOn_replies (n : Notice) (k : LinkState) : (raiseOn n k).replies = k.replies := by
  unfold raiseOn
  split <;> rfl

theorem raiseOn_keeps_notices (n : Notice) {k : LinkState} (hk : NoticesSound k) : NoticesSound (raiseOn n k) := by
  by_cases hm : noticeKind n ∈ k.mask
  · rw [raiseOn_held hm]
    obtain ⟨hdistinct, hmasked, hcounts⟩ := hk
    rcases first_of_kind n k.notices with hnew | ⟨a, p, b, hps, hp, ha⟩
    · refine ⟨?_, ?_, ?_⟩ <;> simp only [enterNotice_new hnew]
      · simpa [List.nodup_append, hdistinct] using hnew
      · simpa [or_imp, forall_and, hm] using hmasked
      · simpa [or_imp, forall_and] using hcounts
    · rw [hps] at hdistinct hmasked hcounts
      refine ⟨?_, ?_, ?_⟩ <;> simp only [hps, enterNotice_pending hp ha]
      · simpa [hp] using hdistinct
      · intro q hq
        rcases List.mem_append.1 hq with hq | hq
        · exact hmasked q (List.mem_append_left _ hq)
        · rcases List.mem_cons.1 hq with rfl | hq
          · exact hm
          · exact hmasked q (by simp [hq])
      · intro q hq
        rcases List.mem_append.1 hq with hq | hq
        · exact hcounts q (List.mem_append_left _ hq)
        · rcases List.mem_cons.1 hq with rfl | hq
          · simp only; omega
          · exact hcounts q (by simp [hq])
  · rwa [raiseOn_masked hm]

end Sys2Proof.Machine
end

section
/-! PROOFS. What a transmitter sends: a reply's chain of frames, and what it begins after the end of a frame (R173, R177). -/

namespace Sys2Proof.Machine

/-! ## The chain of a reply (R173) -/

/-- R173: a reply's chain: reply parts of 240 bytes with the reply's tag and code, and a last frame of kind reply, whose
payloads joined are the reply's. -/
structure ReplyChain (tag code : Nat) (payload : List Byte) (parts : List Frame) (last : Frame) : Prop where
  joins : (parts ++ [last]).flatMap (·.payload) = payload
  names : ∀ f ∈ parts ++ [last], f.tag = tag ∧ f.code = code
  lastKind : last.kind = .reply
  lastSize : last.payload.length ≤ 240
  parts : ∀ f ∈ parts, f.kind = .replyPart ∧ f.payload.length = 240

/-- A payload of at most 240 bytes goes out in one frame. -/
theorem replyChain_single (tag code : Nat) {p : List Byte} (hp : p.length ≤ 240) :
    ReplyChain tag code p [] { kind := .reply, tag := tag, code := code, payload := p } :=
  ⟨by simp, by simp, rfl, hp, by simp⟩

/-- A part of 240 bytes before a chain. -/
theorem ReplyChain.cons {tag code : Nat} {p : List Byte} {parts : List Frame} {last : Frame}
    (h : ReplyChain tag code (p.drop 240) parts last) (hp : 240 ≤ p.length) :
    ReplyChain tag code p ({ kind := .replyPart, tag := tag, code := code, payload := p.take 240 } :: parts) last where
  joins := by
    rw [List.cons_append, List.flatMap_cons, h.joins]
    exact List.take_append_drop 240 p
  names := by simpa using h.names
  lastKind := h.lastKind
  lastSize := h.lastSize
  parts := by simpa [hp] using h.parts

/-- R173: `k` parts are enough for a payload of fewer than 240 × (`k` + 1) bytes. -/
theorem replyParts_chain (tag code k : Nat) (p : List Byte) (hk : p.length / 240 ≤ k) :
    ∃ parts last, replyParts tag code k p = parts ++ [last] ∧ ReplyChain tag code p parts last := by
  induction k generalizing p with
  | zero => exact ⟨[], _, rfl, replyChain_single tag code (by omega)⟩
  | succ k ih =>
    rw [replyParts, Config.maxPayload]
    by_cases hp : p.length ≤ 240
    · rw [if_pos hp]
      exact ⟨[], _, rfl, replyChain_single tag code hp⟩
    · obtain ⟨parts, last, hchain, h⟩ := ih (p.drop 240) (by simp only [List.length_drop]; omega)
      rw [if_neg hp, hchain]
      exact ⟨_, last, rfl, h.cons (by omega)⟩

/-- R173: the chain of a reply. -/
theorem replyFrames_chain (r : Reply) :
    ∃ parts last, replyFrames r = parts ++ [last] ∧ ReplyChain r.tag (statusCode r.status) (payloadBytes r.body) parts last :=
  replyParts_chain _ _ _ _ le_rfl

theorem replyFrames_ne_nil (r : Reply) : replyFrames r ≠ [] := by
  obtain ⟨parts, last, h, _⟩ := replyFrames_chain r
  simp [h]

/-! ## The arbiter (R177) -/

section
variable {k : LinkState}

theorem arbitrate_sending {f : Frame} {rest : List Frame} (h : k.tx = f :: rest) : arbitrate k = k := by
  simp [arbitrate, h]

theorem arbitrate_reply {r : Reply} {rs : List Reply} (ht : k.tx = []) (hr : k.replies = r :: rs) :
    arbitrate k = { k with tx := replyFrames r, replies := rs } := by
  simp [arbitrate, ht, hr]

theorem arbitrate_notice {n : PendingNotice} {ns : List PendingNotice} (ht : k.tx = []) (hr : k.replies = [])
    (hn : k.notices = n :: ns) :
    arbitrate k = { k with tx := [noticeFrame k.seq n], notices := ns, seq := (k.seq + 1) % 65536 } := by
  simp [arbitrate, ht, hr, hn]

theorem arbitrate_nothing (hr : k.replies = []) (hn : k.notices = []) : arbitrate k = k := by
  cases ht : k.tx with
  | nil => simp [arbitrate, ht, hr, hn]
  | cons f rest => exact arbitrate_sending ht

/-- R177: after its arbiter has acted a link with an idle transmitter has nothing waiting. -/
theorem arbitrate_idleMeansEmpty (k : LinkState) : idleMeansEmpty (arbitrate k) := by
  cases ht : k.tx with
  | cons f rest => rw [arbitrate_sending ht]; simp [idleMeansEmpty, ht]
  | nil =>
    cases hr : k.replies with
    | cons r rs => rw [arbitrate_reply ht hr]; simp [idleMeansEmpty, replyFrames_ne_nil]
    | nil =>
      cases hn : k.notices with
      | cons n ns => rw [arbitrate_notice ht hr hn]; simp [idleMeansEmpty]
      | nil => rw [arbitrate_nothing hr hn]; exact fun _ => ⟨hr, hn⟩

/-- R177: the arbiter takes no notice into the map and no reply into the queue. -/
theorem arbitrate_keeps_notices (hk : NoticesSound k) : NoticesSound (arbitrate k) := by
  cases ht : k.tx with
  | cons f rest => rwa [arbitrate_sending ht]
  | nil =>
    cases hr : k.replies with
    | cons r rs => rw [arbitrate_reply ht hr]; exact ⟨hk.distinct, hk.masked, hk.counts⟩
    | nil =>
      cases hn : k.notices with
      | cons n ns =>
        rw [arbitrate_notice ht hr hn]
        obtain ⟨hdistinct, hmasked, hcounts⟩ := hk
        rw [hn] at hdistinct hmasked hcounts
        exact ⟨(List.nodup_cons.1 hdistinct).2, fun p hp => hmasked p (List.mem_cons_of_mem _ hp),
          fun p hp => hcounts p (List.mem_cons_of_mem _ hp)⟩
      | nil => rwa [arbitrate_nothing hr hn]

theorem arbitrate_replies_le (k : LinkState) : (arbitrate k).replies.length ≤ k.replies.length := by
  cases ht : k.tx with
  | cons f rest => rw [arbitrate_sending ht]
  | nil =>
    cases hr : k.replies with
    | cons r rs => rw [arbitrate_reply ht hr]; simp
    | nil =>
      cases hn : k.notices with
      | cons n ns => rw [arbitrate_notice ht hr hn]; simp [hr]
      | nil => rw [arbitrate_nothing hr hn]; simp [hr]

end

/-! ## The end of a frame (R177) -/

/-- R177: the end of a frame on a link, while the other link's arbiter has nothing to do. -/
theorem exec_transmitFrameEnd {l : Link} {k : LinkState} {s : State} (hk : s.link l = k)
    (ho : arbitrate (s.link (otherLink l)) = s.link (otherLink l)) :
    exec (.transmitFrameEnd l) s = .next (s.onLink l fun _ => arbitrate { k with tx := k.tx.tail }) := by
  subst hk
  cases l
  · have hline : arbitrate s.line = s.line := ho
    simp [exec, execTransmitFrameEnd, done, State.arbiters, State.onLink, State.link, hline]
  · have hcell : arbitrate s.cell = s.cell := ho
    simp [exec, execTransmitFrameEnd, done, State.arbiters, State.onLink, State.link, hcell]

/-- Settles O8: the chain by recursion on its parts; the end of a frame by what is left to send: a chain, a reply, a notice. -/
theorem repliesGoOutInChains : Obligations.RepliesGoOutInChains := by
  refine ⟨fun r => ?_, fun l k s hk ho => ?_⟩
  · obtain ⟨parts, last, hframes, h⟩ := replyFrames_chain r
    rw [hframes]
    exact ⟨h.joins, h.names, parts, last, rfl, h.lastKind, h.lastSize, h.parts⟩
  · rw [exec_transmitFrameEnd hk ho]
    refine ⟨fun f g rest htx => ?_, fun hone => ?_⟩
    · rw [htx, arbitrate_sending (f := g) (rest := rest) rfl]
      rfl
    · have htail : k.tx.tail = [] := List.length_eq_zero_iff.1 (by rw [List.length_tail]; omega)
      rw [htail]
      have hfree : ({ k with tx := [] } : LinkState).tx = [] := rfl
      exact ⟨fun r rs hr => by rw [arbitrate_reply hfree hr], fun hr n ns hn => by rw [arbitrate_notice hfree hr hn],
        fun hr hn => by rw [arbitrate_nothing (k := { k with tx := [] }) hr hn]⟩

end Sys2Proof.Machine
end

section
/-! PROOFS. What the events of the equipment do on the links: they raise notices there, and nothing else (R176). -/

namespace Sys2Proof.Machine

/-! ## Notices raised, one after another -/

/-- R176: a link after notices have been raised, one after another. -/
def raiseAll (ns : List Notice) (k : LinkState) : LinkState := ns.foldl (fun k n => raiseOn n k) k

/-- On the links a change of state raises notices and nothing else; a tare in progress goes on. -/
structure OnlyRaises (s u : State) : Prop where
  links : ∃ ns, u.cell = raiseAll ns s.cell ∧ u.line = raiseAll ns s.line
  tare : u.head.tare.isSome = s.head.tare.isSome

section
variable {s u v : State}

/-- A change of other blocks alone. -/
theorem onlyRaises_of_same (hc : u.cell = s.cell := by rfl) (hl : u.line = s.line := by rfl)
    (ht : u.head.tare.isSome = s.head.tare.isSome := by rfl) : OnlyRaises s u :=
  ⟨⟨[], hc, hl⟩, ht⟩

theorem OnlyRaises.refl (s : State) : OnlyRaises s s := onlyRaises_of_same

theorem OnlyRaises.trans (h : OnlyRaises s u) (h' : OnlyRaises u v) : OnlyRaises s v := by
  obtain ⟨⟨ns, hc, hl⟩, ht⟩ := h
  obtain ⟨⟨ns', hc', hl'⟩, ht'⟩ := h'
  exact ⟨⟨ns ++ ns', by rw [hc', hc, raiseAll, raiseAll, raiseAll, List.foldl_append],
    by rw [hl', hl, raiseAll, raiseAll, raiseAll, List.foldl_append]⟩, ht'.trans ht⟩

theorem onlyRaises_raise (n : Notice) (s : State) : OnlyRaises s (s.raise n) := ⟨⟨[n], rfl, rfl⟩, rfl⟩

/-- Notices raised after a change of other blocks. -/
theorem OnlyRaises.after (h : OnlyRaises u v) (hc : u.cell = s.cell := by rfl) (hl : u.line = s.line := by rfl)
    (ht : u.head.tare.isSome = s.head.tare.isSome := by rfl) : OnlyRaises s v :=
  (onlyRaises_of_same hc hl ht).trans h

/-- Notices raised before a change of other blocks. -/
theorem OnlyRaises.before (h : OnlyRaises s u) (hc : v.cell = u.cell := by rfl) (hl : v.line = u.line := by rfl)
    (ht : v.head.tare.isSome = u.head.tare.isSome := by rfl) : OnlyRaises s v :=
  h.trans (onlyRaises_of_same hc hl ht)

end

section
variable (s : State)

/-! ## Programs, stops and drive faults -/

theorem handOver_raises : OnlyRaises s (handOver s) := by
  unfold handOver
  repeat' split
  all_goals exact onlyRaises_of_same

theorem takeFollowOn_raises : OnlyRaises s (takeFollowOn s) := by
  unfold takeFollowOn
  repeat' split
  all_goals exact onlyRaises_of_same

theorem continueProgram_raises (last : Bool) : OnlyRaises s (continueProgram last s) := by
  unfold continueProgram
  split
  · exact .refl s
  · split
    · exact onlyRaises_of_same
    · split
      · exact (onlyRaises_raise _ _).after
      · exact handOver_raises s

theorem closeStep_raises (r : Run) (h : InHand) (c : EndCause) (stop : Int) : OnlyRaises s (closeStep r h c stop s) := by
  simp only [closeStep]
  split
  · exact ((onlyRaises_raise _ _).after).before
  · exact (onlyRaises_raise _ _).after

theorem endStep_raises (c : EndCause) (stop : Int) (drop : Bool) : OnlyRaises s (endStep c stop drop s) := by
  simp only [endStep]
  split
  · next r h _ _ =>
    have hclose := closeStep_raises s r h c stop
    split
    · exact hclose.trans (continueProgram_raises _ _).after
    · split <;> exact hclose.before
  · exact .refl s

theorem endPaused_raises (c : EndCause) (drop : Bool) : OnlyRaises s (endPaused c drop s) := by
  simp only [endPaused]
  split
  · exact onlyRaises_of_same
  · split
    · exact (takeFollowOn_raises _).after
    · exact onlyRaises_of_same

theorem interrupt_raises (c : EndCause) (drop : Bool) : OnlyRaises s (interrupt c drop s) := by
  unfold interrupt
  split
  · exact endStep_raises ..
  · split
    · exact endPaused_raises ..
    · exact .refl s

theorem driveFault_raises (src : FaultSource) : OnlyRaises s (driveFault src s) := by
  have hfault (m : Motion) (n : Notice) : OnlyRaises s (State.raise { s with motion := m } n) := (onlyRaises_raise n _).after
  have hends (left : Stroke) (u : State) : OnlyRaises u (if u.inHand.isSome then endStep .driveFault u.motion.position false u
      else if left = .paused then endPaused .driveFault false u else markRest u) := by
    repeat' split
    · exact endStep_raises ..
    · exact endPaused_raises ..
    · exact onlyRaises_of_same
  simp only [driveFault]
  split
  · exact .refl s
  · exact (hfault _ _).trans (hends _ _)

theorem guardEntry_raises (k : GuardKind) : OnlyRaises s (guardEntry k s) := by
  simp only [guardEntry]
  split
  case h_4 | h_5 => exact interrupt_raises ..
  case h_6 => split <;> exact onlyRaises_of_same
  all_goals exact onlyRaises_of_same

theorem sensingLost_raises : OnlyRaises s (sensingLost s) := by
  unfold sensingLost
  split
  case h_1 | h_2 => exact interrupt_raises ..
  all_goals exact .refl s

theorem leaveReady_raises : OnlyRaises s (leaveReady s) := (sensingLost_raises _).after

/-! ## The head -/

theorem trainingSuccess_raises : OnlyRaises s (trainingSuccess s) := by
  simp only [trainingSuccess]
  split
  · exact onlyRaises_of_same
  · exact (onlyRaises_raise _ _).after

theorem enterNoLink_raises : OnlyRaises s (enterNoLink s) := (onlyRaises_raise _ _).after

theorem trainingTimeout_raises (passed : List Nat) : OnlyRaises s (trainingTimeout passed s) := by
  simp only [trainingTimeout]
  split
  · exact onlyRaises_of_same
  · exact (enterNoLink_raises _).after

theorem descriptorAnswered_raises (kind : Nat) (o : Orientation) : OnlyRaises s (descriptorAnswered kind o s) := by
  unfold descriptorAnswered
  split
  · exact onlyRaises_of_same
  · exact enterNoLink_raises s

theorem closeRollCall_raises : OnlyRaises s (closeRollCall s) := (onlyRaises_raise _ _).after

/-! ## Samples -/

theorem takeTouch_raises (a b : Nat) (position : Int) (value : Nat) (suspect : Bool) :
    OnlyRaises s (takeTouch a b position value suspect s) := by
  simp only [takeTouch]
  split <;> exact (endStep_raises ..).after

theorem takeKnee_raises (lim : Limits) (k : Nat) (position : Int) : OnlyRaises s (takeKnee lim k position s) := by
  simp only [takeKnee]
  split <;> exact (endStep_raises ..).after

theorem ramTests_raises (position : Int) (value : Nat) (completed : List Completion) :
    OnlyRaises s (ramTests position value completed s) := by
  unfold ramTests
  split
  · split
    · exact endStep_raises ..
    · split
      · exact takeKnee_raises ..
      · split
        · exact endStep_raises ..
        · exact .refl s
  · exact .refl s

theorem useRamSample_raises (position : Int) (value : Nat) (suspect : Bool) :
    OnlyRaises s (useRamSample position value suspect s) := by
  simp only [useRamSample]
  split
  · split
    · exact takeTouch_raises ..
    · exact .refl s
  · split
    · exact (ramTests_raises ..).after
    · exact onlyRaises_of_same

theorem raisePeaks_raises (value : Nat) : OnlyRaises s (raisePeaks value s) := by
  unfold raisePeaks
  split <;> exact onlyRaises_of_same

theorem takeRamSample_raises (raw enc : Int) : OnlyRaises s (takeRamSample raw enc s) := by
  simp only [takeRamSample]
  split
  · exact (((raisePeaks_raises ..).trans (useRamSample_raises ..))).after
  · exact onlyRaises_of_same

theorem useFinger_raises (r : Run) (finger : List (Nat × FingerSample)) : OnlyRaises s (useFinger r finger s) := by
  have hbin : OnlyRaises s (if r.fingersGone then s
      else { s with profile := binFingers r.map s.motion.position finger s.profile }) := by
    split <;> exact onlyRaises_of_same
  simp only [useFinger]
  split
  · split
    · exact hbin.trans (endStep_raises ..)
    · exact hbin
  · exact hbin

theorem positionFailed_raises (p : Nat) : OnlyRaises s (positionFailed p s) := by
  unfold positionFailed
  split
  · exact (sensingLost_raises _).after
  · exact .refl s

theorem takeAlert_raises (a : Alert) : OnlyRaises s (takeAlert s a) := by
  have htaken : OnlyRaises s (alertTaken s a) := (onlyRaises_raise _ _).after
  by_cases h : (s.head.entry a.position).status ≠ .present ∨ (s.head.entry a.position).lastSeq = some a.seq
  · rw [takeAlert_ignored rfl h]
    exact onlyRaises_of_same
  · push Not at h
    rw [takeAlert_taken rfl h.1 h.2]
    split
    · exact htaken.trans (positionFailed_raises ..)
    · exact htaken

theorem takeAlerts_raise (alerts : List Alert) : OnlyRaises s (alerts.foldl takeAlert s) := by
  induction alerts generalizing s with
  | nil => exact .refl s
  | cons a alerts ih => exact (takeAlert_raises s a).trans (ih _)

/-- R41: a tare in progress goes on through a frame instant. -/
theorem framesTaken_raises (enc : Int) (frames : List LaneFrame) : OnlyRaises s (framesTaken enc frames s) :=
  onlyRaises_of_same (ht := by rw [framesTaken, takeFrames_head]; exact Option.isSome_map)

theorem takeFrameInstant_raises (enc : Int) (frames : List LaneFrame) : OnlyRaises s (takeFrameInstant enc frames s) := by
  have hframes := framesTaken_raises s enc frames
  cases hrun : s.run with
  | none =>
    rw [takeFrameInstant_idle enc frames hrun]
    exact hframes.trans (takeAlerts_raise ..)
  | some r =>
    rw [takeFrameInstant_running enc frames hrun]
    exact (hframes.trans (useFinger_raises ..)).trans (takeAlerts_raise ..)

/-! ## The ends of steps that the motion block sees, the guards, the hold, the rest report -/

theorem takeMoveReached_raises : OnlyRaises s (takeMoveReached s) := by
  unfold takeMoveReached
  split
  · split
    · exact (endStep_raises ..).after
    · exact .refl s
  · exact .refl s

theorem takeProbeArrival_raises : OnlyRaises s (takeProbeArrival s) := by
  unfold takeProbeArrival
  split
  · split
    · exact (endStep_raises ..).after
    · exact .refl s
  · exact .refl s

theorem takeStall_raises : OnlyRaises s (takeStall s) := by
  unfold takeStall
  split
  · exact .refl s
  · split
    · exact interrupt_raises ..
    all_goals exact onlyRaises_of_same

theorem takeTravelLimit_raises : OnlyRaises s (takeTravelLimit s) := by
  unfold takeTravelLimit
  split
  · exact endStep_raises ..
  · exact .refl s

theorem takeRetractReached_raises : OnlyRaises s (takeRetractReached s) := by
  unfold takeRetractReached
  split <;> exact onlyRaises_of_same

theorem takeGuardChange_raises (i : Nat) (d : Debounced) : OnlyRaises s (takeGuardChange i d s) := by
  have hentry (g : Guards) (k : GuardKind) : OnlyRaises s (guardEntry k { s with guards := g }) := (guardEntry_raises _ k).after
  simp only [takeGuardChange]
  split
  · split
    · exact (hentry _ _).trans (onlyRaises_raise _ _).after
    · exact hentry _ _
  · split
    · exact (onlyRaises_raise _ _).after
    · exact onlyRaises_of_same

theorem takeGuardConfig_raises (entries : List (Option GuardKind)) : OnlyRaises s (takeGuardConfig entries s) := by
  simp only [takeGuardConfig]
  split
  · split
    · exact (onlyRaises_raise _ _).after
    · exact onlyRaises_of_same
  · split
    · split
      · exact (onlyRaises_raise _ _).after
      · exact onlyRaises_of_same
    · exact onlyRaises_of_same

theorem expireHold_raises (r : Record) : OnlyRaises s (expireHold r s) := by
  simp only [expireHold]
  split
  · exact onlyRaises_of_same
  · exact (onlyRaises_raise _ _).after

theorem takeRestReport_raises : OnlyRaises s (takeRestReport s) := by
  unfold takeRestReport
  split
  · simp only [announce]
    refine OnlyRaises.trans ?_ (onlyRaises_raise _ _)
    split <;> exact onlyRaises_of_same
  · exact onlyRaises_of_same

/-! ## The job unit's requests, less their replies -/

theorem acceptStep_raises (j : Job) (rec : StepRecord) (next : Grammar) : OnlyRaises s (acceptStep j rec next s) := by
  simp only [acceptStep]
  split
  · exact (handOver_raises _).after
  · exact onlyRaises_of_same

theorem stopJob_raises : OnlyRaises s (stopJob s) := by
  unfold stopJob
  repeat' split
  case h_2.isFalse => exact interrupt_raises ..
  all_goals exact onlyRaises_of_same

theorem takeStop_raises : OnlyRaises s (takeStop s) := by
  simp only [takeStop]
  split
  · exact (stopJob_raises s).before
  · exact stopJob_raises s

end

end Sys2Proof.Machine
end

section
/-! PROOFS. The reply queues and the pending-notice maps keep their bounds in every step, and no idle transmitter leaves work
waiting (R174, R176, R177). -/

namespace Sys2Proof.Machine

/-! ## The bounds, with the cell link's and the line link's as parameters -/

/-- `LinksSound` with its two bounds as parameters: `c` for the cell link, a deferred TARE reply included, `n` for the line
link. -/
structure LinksWithin (c n : Nat) (s : State) : Prop where
  cell : NoticesSound s.cell
  line : NoticesSound s.line
  cellReplies : s.cell.replies.length + (if s.head.tare.isSome then 1 else 0) ≤ c
  lineReplies : s.line.replies.length ≤ n

theorem linksSound_iff (s : State) : LinksSound s ↔ LinksWithin 9 8 s :=
  ⟨fun ⟨hc, hl, hcr, hlr⟩ => ⟨hc, hl, hcr, hlr⟩, fun ⟨hc, hl, hcr, hlr⟩ => ⟨hc, hl, hcr, hlr⟩⟩

/-- The bounds with room for one more reply on a link. -/
def RoomOn : Link → State → Prop
  | .cell => LinksWithin 8 8
  | .line => LinksWithin 9 7

section
variable {c n : Nat} {l : Link} {s u : State}

/-! ## Notices raised -/

theorem raiseAll_replies (ns : List Notice) (k : LinkState) : (raiseAll ns k).replies = k.replies := by
  induction ns generalizing k with
  | nil => rfl
  | cons n ns ih => exact (ih _).trans (raiseOn_replies n k)

theorem raiseAll_keeps_notices (ns : List Notice) {k : LinkState} (hk : NoticesSound k) : NoticesSound (raiseAll ns k) := by
  induction ns generalizing k with
  | nil => exact hk
  | cons n ns ih => exact ih (raiseOn_keeps_notices n hk)

/-- R176: raised notices keep the bounds. -/
theorem LinksWithin.raises (hs : LinksWithin c n s) (h : OnlyRaises s u) : LinksWithin c n u := by
  obtain ⟨⟨ns, hc, hl⟩, ht⟩ := h
  refine ⟨hc ▸ raiseAll_keeps_notices ns hs.cell, hl ▸ raiseAll_keeps_notices ns hs.line, ?_, ?_⟩
  · rw [hc, raiseAll_replies, ht]
    exact hs.cellReplies
  · rw [hl, raiseAll_replies]
    exact hs.lineReplies

theorem LinksSound.raises (hs : LinksSound s) (h : OnlyRaises s u) : LinksSound u :=
  (linksSound_iff u).2 (((linksSound_iff s).1 hs).raises h)

theorem RoomOn.raises (hs : RoomOn l s) (h : OnlyRaises s u) : RoomOn l u := by
  cases l <;> exact LinksWithin.raises hs h

/-! ## Replies made -/

/-- The notices of a link do not depend on its queues, its receiver or its transmitter. -/
theorem noticesSound_congr {k k' : LinkState} (hk : NoticesSound k) (hm : k'.mask = k.mask := by rfl)
    (hn : k'.notices = k.notices := by rfl) : NoticesSound k' := by
  obtain ⟨hdistinct, hmasked, hcounts⟩ := hk
  rw [← hn] at hdistinct hmasked hcounts
  exact ⟨hdistinct, hm ▸ hmasked, hcounts⟩

/-- R175: a reply takes the room that is left for it. -/
theorem RoomOn.reply (hs : RoomOn l s) (tag : Nat) (st : Status) (body : List Wire) : LinksSound (s.reply l tag st body) := by
  cases l with
  | cell =>
    obtain ⟨hc, hl, hcr, hlr⟩ := hs
    refine ⟨noticesSound_congr hc, hl, ?_, hlr⟩
    rw [reply_head]
    simp only [State.reply, State.onLink, List.length_append, List.length_singleton]
    omega
  | line =>
    obtain ⟨hc, hl, hcr, hlr⟩ := hs
    refine ⟨hc, noticesSound_congr hl, hcr, ?_⟩
    simp only [State.reply, State.onLink, List.length_append, List.length_singleton]
    omega

/-- R175: a request that is answered, having raised no more than notices. -/
theorem RoomOn.answer (hs : RoomOn l s) (h : OnlyRaises s u := by exact onlyRaises_of_same) {tag : Nat} {st : Status}
    {body : List Wire} : LinksSound (u.reply l tag st body) := (hs.raises h).reply tag st body

/-- R42: the reply of a tare that ends takes the place kept for it. -/
theorem LinksWithin.tareReply (hs : LinksWithin c n s) {h : Head} (hrun : s.head.tare.isSome) (hend : h.tare = none) (tag : Nat)
    (st : Status) (body : List Wire) : LinksWithin c n (State.reply { s with head := h } .cell tag st body) := by
  obtain ⟨hc, hl, hcr, hlr⟩ := hs
  refine ⟨noticesSound_congr hc, hl, ?_, hlr⟩
  rw [reply_head]
  simpa [State.reply, State.onLink, hend, hrun] using hcr

theorem LinksWithin.abortTare (hs : LinksWithin c n s) : LinksWithin c n (abortTare s) := by
  unfold Machine.abortTare
  split
  · exact hs
  · next t ht => exact hs.tareReply (by rw [ht]; rfl) rfl t.tag .headNotReady []

theorem LinksSound.room (hs : LinksSound s) (hroom : (s.link l).replies.length < 8) : RoomOn l s := by
  obtain ⟨hc, hl, hcr, hlr⟩ := hs
  cases l with
  | cell =>
    have hlt : s.cell.replies.length < 8 := hroom
    exact ⟨hc, hl, by split <;> omega, hlr⟩
  | line => exact ⟨hc, hl, hcr, Nat.le_of_lt_succ hroom⟩

/-! ## Changes of a link that its bounds do not see -/

theorem LinksWithin.onLink (hs : LinksWithin c n s) (l : Link) {f : LinkState → LinkState}
    (hn : ∀ k, NoticesSound k → NoticesSound (f k)) (hr : ∀ k, (f k).replies.length ≤ k.replies.length) :
    LinksWithin c n (s.onLink l f) := by
  obtain ⟨hc, hl, hcr, hlr⟩ := hs
  cases l with
  | cell => exact ⟨hn _ hc, hl, (Nat.add_le_add_right (hr s.cell) _).trans hcr, hlr⟩
  | line => exact ⟨hc, hn _ hl, hcr, (hr s.line).trans hlr⟩

/-- R178: a new mask drops the pending notices that it does not hold. -/
theorem setMask_keeps_notices (mask : List NoticeKind) {k : LinkState} (hk : NoticesSound k) : NoticesSound (k.setMask mask) where
  distinct := hk.distinct.sublist (List.filter_sublist.map _)
  masked := fun _ hp => of_decide_eq_true (List.mem_filter.1 hp).2
  counts := fun p hp => hk.counts p (List.mem_filter.1 hp).1

theorem LinksSound.setRx (hs : LinksSound s) (l : Link) (rx : Receiver) : LinksSound (s.setRx l rx) :=
  (linksSound_iff _).2 (((linksSound_iff s).1 hs).onLink l (fun _ h => noticesSound_congr h) fun _ => le_rfl)

/-! ## The head's events -/

theorem LinksWithin.beginTraining (hs : LinksWithin c n s) (a : Nat) : LinksWithin c n (beginTraining a s) := by
  simp only [Machine.beginTraining]
  split
  · exact hs.abortTare.raises (leaveReady_raises _).after
  · exact hs.abortTare.raises onlyRaises_of_same

theorem abortTare_tare (s : State) : (abortTare s).head.tare = none := by
  unfold abortTare
  split
  · assumption
  · exact congrArg Head.tare (reply_head ..)

theorem LinksWithin.detach (hs : LinksWithin c n s) : LinksWithin c n (detach s) := by
  have hgone : OnlyRaises (Machine.abortTare s)
      (State.raise { Machine.abortTare s with head := (Machine.abortTare s).head.detached } (.headDetached s.head.status)) :=
    (onlyRaises_raise _ _).after (ht := by rw [abortTare_tare]; rfl)
  simp only [Machine.detach]
  split
  · exact hs.abortTare.raises (hgone.trans (leaveReady_raises _))
  · exact hs.abortTare.raises hgone

/-- R41: the reply of a tare that completes takes the place kept for it. -/
theorem LinksWithin.completeTare (hs : LinksWithin c n s) {t : Tare} (ht : s.head.tare = some t) :
    LinksWithin c n (completeTare t s) :=
  hs.tareReply (by rw [ht]; rfl) (by rw [completeTare_head]) _ _ _

/-! ## Requests -/

theorem serveMask_keeps_links (hs : RoomOn l s) (tag operation kinds : Nat) :
    LinksSound (serveMask l tag operation kinds s) := by
  unfold serveMask
  split
  · exact hs.answer
  · split
    · refine RoomOn.reply (s := s.onLink l _) ?_ tag .ok _
      cases l <;> exact LinksWithin.onLink hs _ (fun _ => setMask_keeps_notices _) fun _ => le_rfl
    · exact hs.answer
  · exact hs.answer

/-- R179, R182: RESTART leaves no notice pending and keeps the waiting replies, that of a tare it ends among them. -/
theorem serveRestart_keeps_links (hs : RoomOn l s) (tag : Nat) : LinksSound (serveRestart l tag s) := by
  have hroom : RoomOn l (abortTare s) := by cases l <;> exact LinksWithin.abortTare hs
  unfold serveRestart
  split
  · exact hs.answer
  · obtain ⟨_, _, hcr, hlr⟩ := hroom.reply tag .ok []
    exact ⟨noticesSound_congr (noticesSound_reset NoticeKind.all), noticesSound_congr (noticesSound_reset NoticeKind.lineDefault),
      (Nat.le_add_right _ _).trans hcr, hlr⟩

/-- R40, R174: a TARE, which the cell link alone may send, defers its reply. -/
theorem serveTare_keeps_links (hs : RoomOn .cell s) (tag : Nat) : LinksSound (serveTare .cell tag s) := by
  unfold serveTare
  split
  · exact hs.answer
  · split
    · exact hs.answer
    · next htare =>
      split
      · obtain ⟨hc, hl, hcr, hlr⟩ := hs
        rw [if_neg htare] at hcr
        exact ⟨hc, hl, Nat.add_le_add_right hcr 1, hlr⟩
      · exact hs.answer

/-- R43: RETRAIN answers a tare in progress before itself. -/
theorem serveRetrain_keeps_links (hs : RoomOn l s) (tag : Nat) : LinksSound (serveRetrain l tag s) := by
  unfold serveRetrain
  split
  · exact hs.answer
  · split
    · exact hs.answer
    · refine RoomOn.reply ?_ tag .ok []
      have habandon : OnlyRaises s { s with head := s.head.abandonRun } :=
        onlyRaises_of_same (ht := by simp only [Head.abandonRun]; split <;> rfl)
      cases l <;> exact (LinksWithin.raises hs habandon).beginTraining 1

theorem serveStep_keeps_links (hs : RoomOn l s) (tag : Nat) (offer : StepOffer) (last : Nat) :
    LinksSound (serveStep l tag offer last s) := by
  simp only [serveStep]
  repeat' split
  case h_2.isFalse.isFalse => exact hs.answer (acceptStep_raises ..)
  all_goals exact hs.answer

theorem serveStart_keeps_links (hs : RoomOn l s) (tag : Nat) : LinksSound (serveStart l tag s) := by
  unfold serveStart
  repeat' split
  case h_3 => exact hs.answer (handOver_raises _).after
  all_goals exact hs.answer

theorem serveGuardConfig_keeps_links (hs : RoomOn l s) (tag : Nat) (codes : List Nat) :
    LinksSound (serveGuardConfig l tag codes s) := by
  simp only [serveGuardConfig]
  repeat' split
  case isFalse.isFalse.isTrue => exact hs.answer (takeGuardConfig_raises ..)
  all_goals exact hs.answer

theorem serveQualify_keeps_links (hs : RoomOn l s) (tag typeId headKind level interval : Nat) :
    LinksSound (serveQualify l tag typeId headKind level interval s) := by
  unfold serveQualify qualifyAs
  repeat' split
  all_goals exact hs.answer

/-- R174, R175: every request that its link may send keeps the bounds where its link has room for a reply; those not named end
each of their checks in one answer. -/
theorem serve_keeps_links (closed : Bool) (r : Request) (hs : RoomOn l s) (hp : permitted l (requestCode r) = true) (tag : Nat) :
    LinksSound (serve closed r l tag s) := by
  cases r with
  | mask op k => exact serveMask_keeps_links hs tag op k
  | restart => exact serveRestart_keeps_links hs tag
  | tare =>
    cases l with
    | cell => exact serveTare_keeps_links hs tag
    | line => simp [permitted, requestCode] at hp
  | retrain => exact serveRetrain_keeps_links hs tag
  | step o last => exact serveStep_keeps_links hs tag o last
  | start => exact serveStart_keeps_links hs tag
  | stop => exact hs.answer (takeStop_raises s)
  | qualify t k v n => exact serveQualify_keeps_links hs tag t k v n
  | guardConfig es => exact serveGuardConfig_keeps_links hs tag es
  | _ =>
    simp only [serve, serveIdent, serveState, serveHeadMap, serveClassPut, serveClassDrop, serveClassGet, serveCataloguePut,
      serveCatalogueDrop, serveCatalogueGet, serveJob, serveStepFlush, serveHome, serveRetract, serveClearFault,
      serveProfileRead, serveResultSummary, serveResultColumn, serveResultPins, serveResultRelease, serveQualifyGet,
      serveDispose, serveHoldTime]
    repeat' split
    all_goals exact hs.answer

end

end Sys2Proof.Machine
end

section
/-! PROOFS. Every command and every step keeps the bounds of the links (R174, R176, R177). -/

namespace Sys2Proof.Machine

/-! ## The request of a frame's code (R172) -/

/-- A parser of requests that yields those of one code alone. -/
def Yields (code : Nat) (o : Option (Request × List Byte)) : Prop := ∀ p ∈ o, requestCode p.1 = code

theorem yields_some {code : Nat} {r : Request} {bs : List Byte} (h : requestCode r = code := by rfl) :
    Yields code (some (r, bs)) := fun p hp => by cases hp; exact h

theorem yields_bind {α : Type} {code : Nat} {o : Option α} {f : α → Option (Request × List Byte)} (h : ∀ a, Yields code (f a)) :
    Yields code (o >>= f) := fun p hp => by
  obtain ⟨a, _, ha⟩ := Option.bind_eq_some_iff.1 hp
  exact h a p ha

theorem yields_ite {code : Nat} {c : Prop} [Decidable c] {o o' : Option (Request × List Byte)} (h : Yields code o)
    (h' : Yields code o') : Yields code (if c then o else o') := by
  split
  · exact h
  · exact h'

/-- R172: the fields of a code are those of its request. -/
theorem takeFields_yields (code : Nat) (bs : List Byte) : Yields code (takeFields code bs) := by
  unfold takeFields
  split
  case h_32 => exact fun p hp => by cases hp
  case h_15 =>
    exact yields_bind fun _ => yields_ite yields_some (yields_bind fun _ => yields_bind fun _ => yields_some)
  all_goals
    repeat refine yields_bind fun _ => ?_
    exact yields_some

theorem requestCode_of_decode {code : Nat} {bs : List Byte} {r : Request} (h : decodeRequest code bs = some r) :
    requestCode r = code := by
  unfold decodeRequest at h
  split at h
  · next r' hr' => cases h; exact takeFields_yields code bs _ hr'
  · cases h

/-! ## A request frame and a byte received -/

section
variable {s u v : State}

theorem takeRequest_keeps_links (l : Link) (tag code : Nat) {body : Option Request} (closed : Bool) (hs : LinksSound s)
    (hbody : ∀ r, body = some r → requestCode r = code) : LinksSound (takeRequest l tag code body s closed) := by
  have hrx : LinksSound (s.setRx l .hunting) := hs.setRx l .hunting
  simp only [takeRequest]
  split
  · exact hrx
  · next hfull =>
    have hroom : RoomOn l (s.setRx l .hunting) := hrx.room (Nat.lt_of_not_le hfull)
    split
    · exact hroom.answer
    · split
      · exact hroom.answer
      · next hp =>
        split
        · exact hroom.answer
        · next r => exact serve_keeps_links closed r hroom (by simpa [hbody r rfl] using hp) tag

theorem takeFrame_keeps_links (l : Link) (bs : List Byte) (closed : Bool) (hs : LinksSound s) :
    LinksSound (takeFrame l bs closed s) := by
  unfold takeFrame
  repeat' split
  case h_1.isTrue => exact takeRequest_keeps_links l _ _ closed hs fun r hr => requestCode_of_decode hr
  all_goals exact hs.setRx l _

theorem receiveByte_keeps_links (l : Link) (b : Byte) (closed : Bool) (hs : LinksSound s) :
    LinksSound (receiveByte l b closed s) := by
  simp only [receiveByte]
  repeat' split
  case h_2.isFalse.isFalse => exact takeFrame_keeps_links l _ closed hs
  case h_1.isFalse => exact hs
  all_goals exact hs.setRx l _

/-! ## The step -/

/-- R177: a command is taken whole, and then the arbiters act; what it leaves them keeps the bounds. -/
def LeavesLinks (s : State) (o : Host.Outcome State Fault Refusal) : Prop := ∃ u, o = done u ∧ (LinksSound s → LinksSound u)

theorem leavesLinks_done (h : LinksSound s → LinksSound u) : LeavesLinks s (done u) := ⟨u, rfl, h⟩

/-- A command that raises no more than notices. -/
theorem leavesLinks_raises (h : OnlyRaises s u := by exact onlyRaises_of_same) : LeavesLinks s (done u) :=
  leavesLinks_done fun hs => hs.raises h

theorem leavesLinks_ite {c : Prop} [Decidable c] (hu : LeavesLinks s (done u)) (hv : LeavesLinks s (done v)) :
    LeavesLinks s (if c then done u else done v) := by
  split
  · exact hu
  · exact hv

/-- A command that may be taken, and then raises no more than notices. -/
theorem leavesLinks_if_taken {c : Prop} [Decidable c] (hu : OnlyRaises s u := by exact onlyRaises_of_same)
    (hv : OnlyRaises s v := by exact onlyRaises_of_same) : LeavesLinks s (if c then done u else done v) :=
  leavesLinks_ite (leavesLinks_raises hu) (leavesLinks_raises hv)

theorem execHandoverEnd_leaves_links (enc : Int) : LeavesLinks s (execHandoverEnd s enc) := by
  simp only [execHandoverEnd]
  split
  · exact leavesLinks_if_taken (endStep_raises ..).after
  · exact leavesLinks_raises

theorem execHomingComplete_leaves_links : LeavesLinks s (execHomingComplete s) := by
  unfold execHomingComplete
  split
  · exact leavesLinks_if_taken
  · exact leavesLinks_raises

theorem execTareComplete_leaves_links : LeavesLinks s (execTareComplete s) := by
  unfold execTareComplete
  split
  · next t ht =>
    exact leavesLinks_ite (leavesLinks_done fun hs => (linksSound_iff _).2 (((linksSound_iff s).1 hs).completeTare ht))
      leavesLinks_raises
  · exact leavesLinks_raises

theorem execHoldOverdue_leaves_links : LeavesLinks s (execHoldOverdue s) := by
  unfold execHoldOverdue
  split
  · exact leavesLinks_raises (expireHold_raises ..)
  · exact leavesLinks_raises

theorem execUnknownRequest_leaves_links (h : Header) (code : Nat) : LeavesLinks s (execUnknownRequest h code s) := by
  unfold execUnknownRequest
  split
  · exact leavesLinks_raises
  · exact leavesLinks_done fun hs => takeRequest_keeps_links _ _ _ _ hs fun r hr => by cases hr

/-- R26, R37: a training run that begins as the count is latched. -/
theorem leavesLinks_training (a : Nat) (h : OnlyRaises s u) : LeavesLinks s (done (beginTraining a u)) :=
  leavesLinks_done fun hs => (linksSound_iff _).2 (((linksSound_iff u).1 (hs.raises h)).beginTraining a)

/-- A command that carries no request keeps the bounds. -/
theorem event_leaves_links {i : Instr} (hi : i.request? = none) : LeavesLinks s (exec i s) := by
  have hlatch (enc : Int) : OnlyRaises s (s.latch enc) := onlyRaises_of_same
  cases i with
  | powerOn => exact leavesLinks_done fun _ => ⟨linksSound_reset.cell, linksSound_reset.line, linksSound_reset.cellReplies,
      linksSound_reset.lineReplies⟩
  | unknownRequest h code => exact execUnknownRequest_leaves_links h code
  | frameByteReceived l b closed => exact leavesLinks_done (receiveByte_keeps_links l b closed)
  | frameDiscard l => exact leavesLinks_done fun hs => hs.setRx l _
  | interByteTimeout l => exact leavesLinks_done fun hs => hs.setRx l _
  | transmitFrameEnd l =>
    exact leavesLinks_done fun hs => (linksSound_iff _).2
      (((linksSound_iff s).1 hs).onLink l (fun _ h => noticesSound_congr h) fun _ => le_rfl)
  | headAttach => exact leavesLinks_ite (leavesLinks_training _ (.refl s)) leavesLinks_raises
  | automaticRetrain enc => exact leavesLinks_ite (leavesLinks_training _ (hlatch enc)) leavesLinks_raises
  | headDetach enc =>
    exact leavesLinks_ite leavesLinks_raises
      (leavesLinks_done fun hs => (linksSound_iff _).2 (((linksSound_iff _).1 (hs.raises (hlatch enc))).detach))
  | tareComplete => exact execTareComplete_leaves_links
  | handoverEnd enc => exact execHandoverEnd_leaves_links enc
  | homingComplete => exact execHomingComplete_leaves_links
  | holdOverdue => exact execHoldOverdue_leaves_links
  | restReport => exact leavesLinks_if_taken (takeRestReport_raises s)
  | ramSample raw enc => exact leavesLinks_raises (takeRamSample_raises s raw enc)
  | frameInstant enc frames => exact leavesLinks_if_taken (takeFrameInstant_raises s enc frames)
  | trainingAttemptSuccess => exact leavesLinks_if_taken (trainingSuccess_raises s)
  | trainingAttemptTimeout passed => exact leavesLinks_if_taken (trainingTimeout_raises s passed)
  | descriptorAnswer kind o => exact leavesLinks_if_taken (descriptorAnswered_raises s kind o)
  | descriptorTimeout => exact leavesLinks_if_taken (enterNoLink_raises s)
  | rollCallClose => exact leavesLinks_if_taken (closeRollCall_raises s)
  | moveReached enc => exact leavesLinks_raises ((hlatch enc).trans (takeMoveReached_raises _))
  | probeLimitArrival enc => exact leavesLinks_raises ((hlatch enc).trans (takeProbeArrival_raises _))
  | stall enc => exact leavesLinks_raises ((hlatch enc).trans (takeStall_raises _))
  | travelLimit enc => exact leavesLinks_raises ((hlatch enc).trans (takeTravelLimit_raises _))
  | driveFaultInput enc => exact leavesLinks_raises (driveFault_raises _ _).after
  | driveReadyLost enc => exact leavesLinks_if_taken (driveFault_raises _ _).after
  | stopTimeout enc => exact leavesLinks_if_taken (driveFault_raises _ _).after
  | underrunTimeout enc => exact leavesLinks_if_taken (endPaused_raises ..).after
  | dwellElapsed enc => exact leavesLinks_if_taken (endStep_raises ..).after
  | stopAtRest enc => exact leavesLinks_if_taken (takeFollowOn_raises _).after
  | retractReached enc => exact leavesLinks_if_taken (takeRetractReached_raises _).after
  | guardInputChange input nowOpen enc => exact leavesLinks_if_taken (takeGuardChange_raises ..).after
  | rollCallAnswer serial position kind => exact leavesLinks_if_taken
  | homeSwitchClosed => exact leavesLinks_if_taken
  | homingRest enc => exact leavesLinks_if_taken
  | homingTimeout => exact leavesLinks_if_taken
  | rampOutputZero => exact leavesLinks_if_taken
  | driveReadyPresent => exact leavesLinks_raises
  | faultInputInactive => exact leavesLinks_raises
  | _ => simp [Instr.request?] at hi

/-- Every command keeps the bounds. -/
theorem exec_leaves_links (i : Instr) (s : State) : LeavesLinks s (exec i s) := by
  cases hi : i.request? with
  | none => exact event_leaves_links hi
  | some p =>
    rw [exec_of_request hi]
    refine leavesLinks_done fun hs => takeRequest_keeps_links _ _ _ _ hs fun r hr => ?_
    split at hr
    · cases hr; rfl
    · cases hr

/-- R177: the arbiters keep the bounds. -/
theorem linksSound_arbiters (hs : LinksSound s) : LinksSound s.arbiters where
  cell := arbitrate_keeps_notices hs.cell
  line := arbitrate_keeps_notices hs.line
  cellReplies := (Nat.add_le_add_right (arbitrate_replies_le s.cell) _).trans hs.cellReplies
  lineReplies := (arbitrate_replies_le s.line).trans hs.lineReplies

/-- A step on an empty queue idles; any other takes a command whole and lets the arbiters act. -/
theorem step_leaves_links {t : State} (h : step s = .next t) :
    t = s ∨ ∃ rest u, t = u.arbiters ∧ (LinksSound { s with pending := rest } → LinksSound u) := by
  unfold step at h
  split at h
  · cases h
    exact .inl rfl
  · next i rest _ =>
    obtain ⟨u, hu, hkeeps⟩ := exec_leaves_links i { s with pending := rest }
    rw [hu] at h
    cases h
    exact .inr ⟨rest, u, rfl, hkeeps⟩

end

/-- Settles O11: a request is taken only where its link has room for a reply, and a TARE keeps the place of the reply it defers;
every other command raises no more than notices, or answers a tare that ends. An arbiter leaves its transmitter idle only with
nothing waiting. -/
theorem linkQueuesStayBounded : Obligations.LinkQueuesStayBounded := by
  refine ⟨fun s t hs ht => ?_, fun s t hcell hline ht => ?_⟩
  · rcases step_leaves_links ht with rfl | ⟨rest, u, rfl, hkeeps⟩
    · exact hs
    · exact linksSound_arbiters (hkeeps ⟨hs.cell, hs.line, hs.cellReplies, hs.lineReplies⟩)
  · rcases step_leaves_links ht with rfl | ⟨rest, u, rfl, _⟩
    · exact ⟨hcell, hline⟩
    · exact ⟨arbitrate_idleMeansEmpty _, arbitrate_idleMeansEmpty _⟩

end Sys2Proof.Machine
end

section
/-! PROOFS. Every well-formed request is decoded from the payload its fields make (R172, R174). -/

namespace Sys2Proof

/-! ## Fields (R172) -/

/-- A parser reads a value off the bytes that spell it, whatever follows them. -/
def Reads {α : Type} (take : List Byte → Option (α × List Byte)) (a : α) (bytes : List Byte) : Prop :=
  ∀ rest, take (bytes ++ rest) = some (a, rest)

/-- A parser that has read a field goes on with the bytes that are left. -/
theorem bind_of_read {α β : Type} {o : Option (α × List Byte)} {a : α} {rest : List Byte}
    {g : α × List Byte → Option (β × List Byte)} (h : o = some (a, rest)) : o >>= g = g (a, rest) := h ▸ rfl

theorem byteOf_toNat (n : Nat) : (byteOf n).toNat = n % 256 := BitVec.toNat_ofNat n 8

theorem take8_byteOf {n : Nat} (h : fits8 n = true) (rest : List Byte) : take8 (byteOf n :: rest) = some (n, rest) := by
  have hn : n < 256 := by simpa [fits8] using h
  rw [take8, byteOf_toNat, Nat.mod_eq_of_lt hn]

theorem take16_bytes16 {n : Nat} (h : fits16 n = true) : Reads take16 n (bytes16 n) := fun rest => by
  have hn : n < 65536 := by simpa [fits16] using h
  simp only [bytes16, take16, List.cons_append, List.nil_append, byteOf_toNat, Option.some.injEq, Prod.mk.injEq, and_true]
  omega

theorem take32_bytes32 {n : Nat} (h : fits32 n = true) : Reads take32 n (bytes32 n) := fun rest => by
  have hn : n < 4294967296 := by simpa [fits32] using h
  simp only [bytes32, take32, List.cons_append, List.nil_append, byteOf_toNat, Option.some.injEq, Prod.mk.injEq, and_true]
  omega

section
variable {α : Type} {take : List Byte → Option (α × List Byte)} {spell : α → List Byte}

/-- Fields that are each read off their own bytes are read one after another. -/
theorem takeMany_flatMap {as : List α} (h : ∀ a ∈ as, Reads take a (spell a)) :
    Reads (takeMany take as.length) as (as.flatMap spell) := by
  induction as with
  | nil => exact fun rest => rfl
  | cons a as ih =>
    intro rest
    have hrest := ih (fun b hb => h b (List.mem_cons_of_mem _ hb)) rest
    simp [takeMany, h a List.mem_cons_self _, hrest]

theorem takeMany_map {byte : α → Byte} {as : List α} (h : ∀ a ∈ as, Reads take a [byte a]) :
    Reads (takeMany take as.length) as (as.map byte) := by
  rw [List.map_eq_flatMap]
  exact takeMany_flatMap h

end

theorem takeMany_take8 {ns : List Nat} (h : ns.all fits8 = true) : Reads (takeMany take8 ns.length) ns (ns.map byteOf) :=
  takeMany_map fun n hn => take8_byteOf (List.all_eq_true.1 h n hn)

theorem takeText_bytesText {t : List Nat} (h : fitsText t = true) : Reads takeText t (bytesText t) := fun rest => by
  obtain ⟨hlen, hchars⟩ := Bool.and_eq_true_iff.1 h
  simp [takeText, bytesText, take8_byteOf hlen, takeMany_take8 hchars rest]

/-! ## Catalogue entries (R3, R8 to R11) -/

theorem cellOf_cellCode {c : Option PinCell} (h : cellWellFormed c = true) : cellOf (cellCode c) = c := by
  cases c with
  | none => rfl
  | some p =>
    obtain ⟨rank, cls⟩ := p
    simp only [cellWellFormed, Bool.and_eq_true, decide_eq_true_eq] at h
    obtain ⟨⟨⟨hrank, hcls⟩, hcls16⟩, _⟩ := h
    have hne : 16 * (rank - 1) + cls ≠ 0 := by omega
    have hrow : (16 * (rank - 1) + cls - 1) / 16 + 1 = rank := by omega
    have hcol : (16 * (rank - 1) + cls - 1) % 16 + 1 = cls := by omega
    rw [cellCode, cellOf, if_neg hne, hrow, hcol]

theorem cellCode_fits {c : Option PinCell} (h : cellWellFormed c = true) : fits8 (cellCode c) = true := by
  cases c with
  | none => rfl
  | some p => exact (Bool.and_eq_true_iff.1 h).2

theorem takeCell_cellCode {c : Option PinCell} (h : cellWellFormed c = true) : Reads takeCell c [byteOf (cellCode c)] :=
  fun rest => by simp [takeCell, take8_byteOf (cellCode_fits h), cellOf_cellCode h]

theorem takeMany_takeCell {p : List (Option PinCell)} (h : p.all cellWellFormed = true) :
    Reads (takeMany takeCell p.length) p (p.map fun c => byteOf (cellCode c)) :=
  takeMany_map fun c hc => takeCell_cellCode (List.all_eq_true.1 h c hc)

theorem takeClass_bytesClass {e : ClassEntry} (h : e.wellFormed = true) : Reads takeClass e (bytesClass e) := fun rest => by
  simp only [ClassEntry.wellFormed, Bool.and_eq_true] at h
  obtain ⟨⟨⟨⟨⟨h1, h2⟩, h3⟩, h4⟩, h5⟩, h6⟩ := h
  simp [takeClass, bytesClass, take16_bytes16 h1 _, take16_bytes16 h2 _, take16_bytes16 h3 _, take16_bytes16 h4 _,
    take16_bytes16 h5 _, take32_bytes32 h6 _]

theorem takeType_bytesType {e : TypeEntry} (h : e.wellFormed = true) : Reads takeType e (bytesType e) := fun rest => by
  simp only [TypeEntry.wellFormed, Bool.and_eq_true, decide_eq_true_eq] at h
  obtain ⟨⟨⟨⟨⟨⟨⟨⟨⟨⟨⟨⟨⟨hname, hcols⟩, hrows⟩, hranks⟩, honsets⟩, honset⟩, hseat⟩, htol⟩, hslope⟩, htouch⟩, hpatterns⟩,
    hpattern⟩, hassign⟩, hcolumn⟩ := h
  have hons := takeMany_flatMap (take := take32) (spell := bytes32) (as := e.onsets)
    fun n hn => take32_bytes32 (List.all_eq_true.1 honset n hn)
  have hpats := takeMany_flatMap (take := takeMany takeCell e.rows) (spell := List.map fun c => byteOf (cellCode c))
    (as := e.patterns) fun p hp => by
      have hp := List.all_eq_true.1 hpattern p hp
      simp only [Bool.and_eq_true, decide_eq_true_eq] at hp
      exact hp.1 ▸ takeMany_takeCell hp.2
  have hcolumns := takeMany_take8 hcolumn
  rw [honsets] at hons
  rw [hassign] at hcolumns
  simp only [takeType, bytesType, List.append_assoc, List.cons_append, List.nil_append]
  refine (bind_of_read (takeText_bytesText hname _)).trans ?_
  refine (bind_of_read (take8_byteOf hcols _)).trans ?_
  refine (bind_of_read (take8_byteOf hrows _)).trans ?_
  refine (bind_of_read (take8_byteOf hranks _)).trans ?_
  refine (bind_of_read (hons _)).trans ?_
  refine (bind_of_read (take32_bytes32 hseat _)).trans ?_
  refine (bind_of_read (take32_bytes32 htol _)).trans ?_
  refine (bind_of_read (take16_bytes16 hslope _)).trans ?_
  refine (bind_of_read (take16_bytes16 htouch _)).trans ?_
  refine (bind_of_read (take8_byteOf hpatterns _)).trans ?_
  refine (bind_of_read (hpats _)).trans ?_
  exact bind_of_read (hcolumns _)

/-! ## Steps (R49) -/

theorem takeBody_bytesBody {b : StepBody} (h : (StepOffer.known b).wellFormed = true) :
    Reads (takeBody (bodyCode b)) b (bytesBody b) := fun rest => by
  cases b with
  | move t v | retract t v =>
    obtain ⟨ht, hv⟩ := Bool.and_eq_true_iff.1 h
    simp [takeBody, bodyCode, bytesBody, take32_bytes32 ht _, take16_bytes16 hv _]
  | probe l v a b =>
    simp only [StepOffer.wellFormed, Bool.and_eq_true] at h
    obtain ⟨⟨⟨hl, hv⟩, ha⟩, hb⟩ := h
    simp [takeBody, bodyCode, bytesBody, take32_bytes32 hl _, take16_bytes16 hv _, take32_bytes32 ha _, take32_bytes32 hb _]
  | press v c =>
    obtain ⟨hv, hc⟩ := Bool.and_eq_true_iff.1 h
    simp [takeBody, bodyCode, bytesBody, take16_bytes16 hv _, take16_bytes16 hc _]
  | dwell t => simp [takeBody, bodyCode, bytesBody, take16_bytes16 h _]

/-- R172: the number of a kind is below 5, the first number that names none. -/
theorem bodyCode_lt (b : StepBody) : bodyCode b < 5 := by cases b <;> simp [bodyCode]

/-! ## Requests (R172) -/

/-- R172: the fields of a request of the table, but for a STEP of unknown kind, whose other bytes are not read. -/
theorem takeFields_encodeRequest {r : Request} (h : r.wellFormed = true) (hstep : ∀ k l, r ≠ .step (.unknownKind k) l) :
    Reads (takeFields (requestCode r)) r (encodeRequest r) := fun rest => by
  cases r with
  | step o l =>
    cases o with
    | unknownKind k => exact absurd rfl (hstep k l)
    | known b =>
      obtain ⟨hb, hl⟩ := Bool.and_eq_true_iff.1 h
      have hcode : fits8 (bodyCode b) = true := by cases b <;> rfl
      have hknown : ¬ 5 ≤ bodyCode b := by have := bodyCode_lt b; omega
      simp [takeFields, requestCode, encodeRequest, take8_byteOf hcode, hknown, take8_byteOf hl, takeBody_bytesBody hb _]
  | guardConfig es =>
    simp only [Request.wellFormed, Bool.and_eq_true, decide_eq_true_eq] at h
    have hes := takeMany_take8 h.2
    rw [h.1] at hes
    simp [takeFields, requestCode, encodeRequest, hes _]
  | classPut n e =>
    obtain ⟨hn, he⟩ := Bool.and_eq_true_iff.1 h
    simp [takeFields, requestCode, encodeRequest, take8_byteOf hn, takeClass_bytesClass he _]
  | cataloguePut t e =>
    obtain ⟨ht, he⟩ := Bool.and_eq_true_iff.1 h
    simp [takeFields, requestCode, encodeRequest, take16_bytes16 ht _, takeType_bytesType he _]
  | job t f n m =>
    simp only [Request.wellFormed, Bool.and_eq_true] at h
    obtain ⟨⟨⟨ht, hf⟩, hn⟩, hm⟩ := h
    simp [takeFields, requestCode, encodeRequest, take16_bytes16 ht _, take8_byteOf hf, takeText_bytesText hn _, take8_byteOf hm]
  | classDrop n | classGet n => simp [takeFields, requestCode, encodeRequest, take8_byteOf h]
  | catalogueDrop n | catalogueGet n | resultRelease n | holdTime n =>
    simp [takeFields, requestCode, encodeRequest, take16_bytes16 h _]
  | mask op k =>
    obtain ⟨hop, hk⟩ := Bool.and_eq_true_iff.1 h
    simp [takeFields, requestCode, encodeRequest, take8_byteOf hop, take16_bytes16 hk _]
  | resultSummary n k | resultColumn n k | resultPins n k | qualifyGet n k =>
    obtain ⟨hn, hk⟩ := Bool.and_eq_true_iff.1 h
    simp [takeFields, requestCode, encodeRequest, take16_bytes16 hn _, take8_byteOf hk]
  | profileRead c f n =>
    simp only [Request.wellFormed, Bool.and_eq_true] at h
    obtain ⟨⟨hc, hf⟩, hn⟩ := h
    simp [takeFields, requestCode, encodeRequest, take8_byteOf hc, take16_bytes16 hf _, take8_byteOf hn]
  | dispose p o c =>
    simp only [Request.wellFormed, Bool.and_eq_true] at h
    obtain ⟨⟨hp, ho⟩, hc⟩ := h
    simp [takeFields, requestCode, encodeRequest, take16_bytes16 hp _, take8_byteOf ho, take16_bytes16 hc _]
  | qualify t k l n =>
    simp only [Request.wellFormed, Bool.and_eq_true] at h
    obtain ⟨⟨⟨ht, hk⟩, hl⟩, hn⟩ := h
    simp [takeFields, requestCode, encodeRequest, take16_bytes16 ht _, take8_byteOf hk, take8_byteOf hl, take8_byteOf hn]
  | _ => rfl

/-- R52, R172: a STEP whose kind names none of the five. -/
theorem decodeRequest_unknownKind {k l : Nat} (h : (Request.step (.unknownKind k) l).wellFormed = true) :
    decodeRequest 15 [byteOf k] = some (.step (.unknownKind k) l) := by
  simp only [Request.wellFormed, StepOffer.wellFormed, Bool.and_eq_true, decide_eq_true_eq] at h
  obtain ⟨⟨hk5, hk⟩, rfl⟩ := h
  simp [decodeRequest, takeFields, take8_byteOf hk, hk5]

/-- Settles O6, field by field of each request. -/
theorem payloadDecodesToItsRequest : Obligations.PayloadDecodesToItsRequest := by
  intro r h
  by_cases hstep : ∃ k l, r = .step (.unknownKind k) l
  · obtain ⟨k, l, rfl⟩ := hstep
    exact decodeRequest_unknownKind h
  · push Not at hstep
    have hread := takeFields_encodeRequest h hstep []
    rw [List.append_nil] at hread
    rw [decodeRequest, hread]

end Sys2Proof
end

section
/-! PROOFS. The link unit's checks on a request frame, and what the receiver does with each byte (R172, R174). -/

namespace Sys2Proof.Machine

/-! ## The four checks (R174) -/

/-- R174: the requests that each link may send. -/
theorem permitted_iff (l : Link) (code : Nat) :
    permitted l code = true ↔ l = .cell ∨ code ∈ [1, 2, 3, 17, 18, 29, 23, 30] := by
  cases l with
  | cell => simp [permitted]
  | line => simp [permitted]; tauto

theorem codeKnown_eq_false {code : Nat} (h : code = 0 ∨ 31 < code) : codeKnown code = false := by
  simp only [codeKnown, Bool.and_eq_false_iff, decide_eq_false_iff_not]
  omega

section
variable {h : Header} {s : State}

/-- R174, check 1: with eight replies waiting a frame of any code is discarded. -/
theorem takeRequest_of_full (code : Nat) (body : Option Request) (closed : Bool) (hfull : 8 ≤ (s.link h.link).replies.length) :
    takeRequest h.link h.tag code body s closed = heard h s :=
  if_pos (by rwa [← heard_replies] at hfull)

/-- R174, check 2: a code outside the table. -/
theorem takeRequest_of_unknown {code : Nat} (body : Option Request) (closed : Bool)
    (hroom : (s.link h.link).replies.length < 8) (hcode : codeKnown code = false) :
    takeRequest h.link h.tag code body s closed = (heard h s).refuse h.link h.tag .unknownRequest := by
  rw [← heard_replies] at hroom
  exact (if_neg (Nat.not_le_of_lt hroom)).trans (if_pos (by rw [hcode]; rfl))

/-- Settles O4: the first check that fails of a request's four, and of an unknown code's two. -/
theorem requestChecksInOrder : Obligations.RequestChecksInOrder := by
  refine ⟨fun i h r s hi => ?_, fun h code s hcode => ?_⟩
  · rw [exec_of_request hi]
    refine ⟨fun hfull => ?_, fun hroom hline hforbidden => ?_, fun hroom hp hsize => ?_⟩
    · rw [request_of_full _ hfull]
      rfl
    · have hp : permitted h.link (requestCode r) = false := by
        rw [← Bool.not_eq_true, permitted_iff]
        exact not_or.2 ⟨by simp [hline], hforbidden⟩
      rw [request_of_forbidden _ hroom hp]
      rfl
    · rw [request_of_badLength _ hroom ((permitted_iff ..).2 hp) hsize]
      rfl
  · have hunknown := codeKnown_eq_false hcode
    have hexec : exec (.unknownRequest h code) s = done (takeRequest h.link h.tag code none s) :=
      if_neg (by rw [hunknown]; exact Bool.false_ne_true)
    rw [hexec]
    refine ⟨fun hroom => ?_, fun hfull => ?_⟩
    · rw [takeRequest_of_unknown none false hroom hunknown]
      rfl
    · rw [takeRequest_of_full code none false hfull]
      rfl

end

/-! ## The receiver (R172) -/

section
variable {l : Link} {b n : Byte} {bs : List Byte} {s : State} (closed : Bool)

theorem receiveByte_hunting (hrx : (s.link l).rx = .hunting) :
    receiveByte l b closed s = if b = 0xA5 then s.setRx l (.assembling []) else s := by
  simp only [receiveByte, hrx]
  rfl

/-- R172: the length byte is the first byte after the start byte, be it the one received now. -/
theorem length_byte (h : (bs ++ [b]).head? = some n) : bs.head?.getD b = n := by
  cases bs <;> simpa using h

theorem receiveByte_tooLong (hrx : (s.link l).rx = .assembling bs) (hn : (bs ++ [b]).head? = some n) (h : 240 < n.toNat) :
    receiveByte l b closed s = s.setRx l .hunting := by
  simp only [receiveByte, hrx, length_byte hn]
  exact if_pos h

theorem receiveByte_within (hrx : (s.link l).rx = .assembling bs) (hn : (bs ++ [b]).head? = some n) (h : n.toNat ≤ 240)
    (hlen : (bs ++ [b]).length < n.toNat + 7) : receiveByte l b closed s = s.setRx l (.assembling (bs ++ [b])) := by
  rw [List.length_append] at hlen
  simp only [receiveByte, hrx, length_byte hn]
  exact (if_neg (Nat.not_lt_of_le h)).trans (if_pos hlen)

theorem receiveByte_last (hrx : (s.link l).rx = .assembling bs) (hn : (bs ++ [b]).head? = some n) (h : n.toNat ≤ 240)
    (hlen : (bs ++ [b]).length = n.toNat + 7) : receiveByte l b closed s = takeFrame l (bs ++ [b]) closed s := by
  rw [List.length_append] at hlen
  simp only [receiveByte, hrx, length_byte hn]
  exact (if_neg (Nat.not_lt_of_le h)).trans (if_neg hlen.not_lt)

/-- R172: a frame with a bad CRC or of another kind is discarded. -/
theorem takeFrame_bad (hn : bs.head? = some n)
    (h : bs.drop (n.toNat + 5) ≠ bytes16 (crc16 (bs.take (n.toNat + 5))).toNat ∨ bs[1]? ≠ some 1) :
    takeFrame l bs closed s = s.setRx l .hunting := by
  unfold takeFrame
  split
  · next len kind t0 t1 code rest =>
    obtain rfl : len = n := by simpa using hn
    refine if_neg fun hgood => ?_
    rcases h with h | h
    · exact h hgood.1
    · exact h (by simp [hgood.2])
  · rfl

end

/-- Settles O5, by the receiver's state and the number of bytes that it has. -/
theorem receiverFramesBytes : Obligations.ReceiverFramesBytes := by
  intro l b closed bs s
  have hexec : exec (.frameByteReceived l b closed) s = .next (receiveByte l b closed s).arbiters := rfl
  rw [hexec]
  refine ⟨fun hrx hb => ?_, fun hrx hb => ?_, fun hrx n hn => ⟨fun h => ?_, fun h hlen => ?_, fun h hlen hbad => ?_⟩, rfl, rfl⟩
  · rw [receiveByte_hunting closed hrx, if_neg hb]
  · rw [receiveByte_hunting closed hrx, if_pos hb]
  · rw [receiveByte_tooLong closed hrx hn h]
  · rw [receiveByte_within closed hrx hn h hlen]
  · rw [receiveByte_last closed hrx hn h hlen, takeFrame_bad closed hn hbad]

end Sys2Proof.Machine
end

section
/-! PROOFS. MASK, IDENT and STATE: their replies, and what they leave (R178, R180, R181). -/

namespace Sys2Proof.Machine

/-! ## MASK (R178) -/

theorem mem_notice_kinds (k : NoticeKind) : k ∈ NoticeKind.all := by cases k <;> decide

/-- R172: the notice kinds of a set field are those whose bits it sets. -/
theorem mem_kindsOf (bits : Nat) (k : NoticeKind) : k ∈ kindsOf bits ↔ bits.testBit (noticeCode k - 1) = true := by
  simp [kindsOf, mem_notice_kinds]

theorem kindsOf_nodup (bits : Nat) : (kindsOf bits).Nodup := List.Nodup.filter _ (by decide)

section
variable {l : Link} {tag op kinds : Nat} {s : State}

theorem serveMask_reads : serveMask l tag 0 kinds s = s.reply l tag .ok (maskWire (s.link l)) := rfl

theorem serveMask_sets (hk : kinds < 2 ^ 11) : serveMask l tag 1 kinds s
    = (s.onLink l fun k => k.setMask (kindsOf kinds)).reply l tag .ok (maskWire ((s.link l).setMask (kindsOf kinds))) := by
  rw [← onLink_link s l fun k => k.setMask (kindsOf kinds)]
  exact if_pos hk

theorem serveMask_badField (h : 2 ≤ op ∨ op = 1 ∧ 2 ^ 11 ≤ kinds) :
    serveMask l tag op kinds s = s.refuse l tag .badField := by
  unfold serveMask
  split
  · omega
  · exact if_neg (by omega)
  · rfl

end

section
variable {h : Header} {s : State}

theorem exec_mask_of_admitted {op kinds : Nat} (ha : admitted h (.mask op kinds) s = true) :
    exec (.mask h op kinds) s = done (serveMask h.link h.tag op kinds (heard h s)) := exec_of_admitted rfl ha

/-- What MASK shows of a link is not its receiver. -/
theorem maskWire_heard (h : Header) (s : State) : maskWire ((heard h s).link h.link) = maskWire (s.link h.link) := by
  simp only [heard, State.setRx, onLink_link]
  rfl

theorem onLink_heard (f : LinkState → LinkState) :
    (heard h s).onLink h.link f = s.onLink h.link fun _ => f { s.link h.link with rx := .hunting } := by
  obtain ⟨link, tag, len⟩ := h
  cases link <;> rfl

/-! ## IDENT and STATE (R180, R181) -/

theorem exec_ident_of_admitted (ha : admitted h .ident s = true) :
    exec (.ident h) s = done (serveIdent h.link h.tag (heard h s)) := exec_of_admitted rfl ha

theorem exec_state_of_admitted (ha : admitted h .state s = true) :
    exec (.state h) s = done (serveState h.link h.tag (heard h s)) := exec_of_admitted rfl ha

/-- R46: the number of the job state, by the job and its running part. -/
theorem jobStateCode_eq (s : State) : jobStateCode s = if s.job = none then 0 else if s.run = none then 1 else 2 := by
  cases hj : s.job with
  | none => simp [jobStateCode, hj]
  | some j => cases hr : j.run <;> simp [jobStateCode, State.run, hj, hr]

/-- R181: STATE shows no link. -/
theorem stateWire_heard (h : Header) (s : State) : stateWire (heard h s) = stateWire s := by
  simp [stateWire, jobStateCode, State.openSet]

end

/-- Settles O10: MASK by its operation and the set it is given; IDENT and STATE by their replies. -/
theorem maskIdentAndStateAnswer : Obligations.MaskIdentAndStateAnswer := by
  refine ⟨fun h op kinds s ha => ⟨?_, ?_, fun hbad => ?_⟩, fun h s ha => ?_, fun h s ha => ?_⟩
  · rintro rfl
    rw [exec_mask_of_admitted ha, serveMask_reads, maskWire_heard]
    rfl
  · rintro rfl hk
    refine ⟨kindsOf kinds, mem_kindsOf kinds, kindsOf_nodup kinds, ?_⟩
    rw [exec_mask_of_admitted ha, serveMask_sets hk, onLink_heard]
    simp only [heard, State.setRx, onLink_link]
    rfl
  · rw [exec_mask_of_admitted ha, serveMask_badField hbad]
    rfl
  · rw [exec_ident_of_admitted ha]
    rfl
  · rw [exec_state_of_admitted ha, serveState, stateWire_heard, stateWire, jobStateCode_eq]
    rfl

end Sys2Proof.Machine
end

section
/-! PROOFS. The bytes of a request's frame, received one by one, do what the whole request does (R172, R174). -/

namespace Sys2Proof.Machine

/-! ## The receiver set -/

theorem setRx_setRx (s : State) (l : Link) (rx rx' : Receiver) : (s.setRx l rx).setRx l rx' = s.setRx l rx' := by
  cases l <;> rfl

theorem setRx_rx (s : State) (l : Link) (rx : Receiver) : ((s.setRx l rx).link l).rx = rx := by cases l <;> rfl

/-- R177: an arbiter does not look at the receiver. -/
theorem arbitrate_rx (k : LinkState) (rx : Receiver) : arbitrate { k with rx := rx } = { arbitrate k with rx := rx } := by
  simp only [arbitrate]
  repeat' split
  all_goals rfl

/-- R177: where the arbiters have nothing to do, they have nothing to do whatever a receiver holds. -/
theorem arbiters_setRx {s : State} (hs : s.arbiters = s) (l : Link) (rx : Receiver) :
    (s.setRx l rx).arbiters = s.setRx l rx := by
  have h : (s.setRx l rx).arbiters = s.arbiters.setRx l rx := by
    cases l <;> simp [State.setRx, State.onLink, State.arbiters, arbitrate_rx]
  rw [h, hs]

/-! ## Commands taken one after another -/

theorem runCommands_cons_of_next {c : Instr} {cs : List Instr} {s t : State} (h : exec c s = .next t) :
    runCommands (c :: cs) s = runCommands cs t := by
  rw [runCommands, h]

theorem runCommands_singleton (c : Instr) (s : State) : runCommands [c] s = exec c s := by
  rw [runCommands]
  cases exec c s <;> rfl

theorem runCommands_append_of_next {cs cs' : List Instr} {s t : State} (h : runCommands cs s = .next t) :
    runCommands (cs ++ cs') s = runCommands cs' t := by
  induction cs generalizing s with
  | nil => cases h; rfl
  | cons c cs ih =>
    cases hc : exec c s with
    | next u =>
      rw [runCommands_cons_of_next hc] at h
      rw [List.cons_append, runCommands_cons_of_next hc, ih h]
    | fault r => cases r
    | refused r => rw [runCommands, hc] at h; cases h

/-! ## The bytes before the last (R172) -/

/-- R172: a link that receives a byte. -/
def receive (l : Link) (closed : Bool) (b : Byte) : Instr := .frameByteReceived l b closed

section
variable {l : Link} {closed : Bool} {s : State} (hs : s.arbiters = s)

include hs

theorem exec_startByte (hrx : (s.link l).rx = .hunting) :
    exec (receive l closed 0xA5) s = .next (s.setRx l (.assembling [])) := by
  have hexec : exec (receive l closed 0xA5) s = .next (receiveByte l 0xA5 closed s).arbiters := rfl
  rw [hexec, receiveByte_hunting closed hrx, if_pos rfl, arbiters_setRx hs]

/-- R172: bytes short of the frame's end are collected. -/
theorem runCommands_collect {n : Byte} (hn240 : n.toNat ≤ 240) (more pre : List Byte) (hn : (pre ++ more).head? = some n)
    (hlen : (pre ++ more).length < n.toNat + 7) :
    runCommands (more.map (receive l closed)) (s.setRx l (.assembling pre)) = .next (s.setRx l (.assembling (pre ++ more))) := by
  induction more generalizing pre with
  | nil => rw [List.append_nil]; rfl
  | cons b more ih =>
    rw [List.append_cons] at hn hlen ⊢
    have hnow : (pre ++ [b]).head? = some n := by cases pre <;> simpa using hn
    have hbyte : receiveByte l b closed (s.setRx l (.assembling pre)) = s.setRx l (.assembling (pre ++ [b])) := by
      rw [receiveByte_within closed (setRx_rx ..) hnow hn240 (by rw [List.length_append] at hlen; omega), setRx_setRx]
    have hexec : exec (receive l closed b) (s.setRx l (.assembling pre)) = .next (s.setRx l (.assembling (pre ++ [b]))) :=
      congrArg Host.Outcome.next (by rw [hbyte, arbiters_setRx hs])
    rw [List.map_cons, runCommands_cons_of_next hexec, ih _ hn hlen]

end

/-! ## The last byte (R172, R174) -/

theorem frameBody_length (kind tag code : Nat) (payload : List Byte) :
    (frameBody kind tag code payload).length = payload.length + 5 := by
  simp [frameBody, bytes16]

/-- R172: the bytes of a frame after its start byte: those that the CRC covers, and the CRC. -/
def frameRest (kind tag code : Nat) (payload : List Byte) : List Byte :=
  frameBody kind tag code payload ++ bytes16 (crc16 (frameBody kind tag code payload)).toNat

theorem wireFrame_eq (kind tag code : Nat) (payload : List Byte) :
    wireFrame kind tag code payload = 0xA5 :: frameRest kind tag code payload := rfl

section
variable {tag code : Nat} {payload : List Byte}

/-- R172: a whole request frame hands its payload to the link unit. -/
theorem takeFrame_request (l : Link) (closed : Bool) (s : State) (htag : fits16 tag = true) (hcode : fits8 code = true)
    (hlen : payload.length ≤ 240) :
    takeFrame l (frameRest 1 tag code payload) closed s = takeRequest l tag code (decodeRequest code payload) s closed := by
  have hsize : (byteOf payload.length).toNat = payload.length := by rw [byteOf_toNat]; omega
  have hcodeByte : (byteOf code).toNat = code := by
    rw [byteOf_toNat, Nat.mod_eq_of_lt (by simpa [fits8] using hcode)]
  have htagBytes : (byteOf tag).toNat + 2 ^ 8 * (byteOf (tag / 2 ^ 8)).toNat = tag := by
    have htag : tag < 65536 := by simpa [fits16] using htag
    rw [byteOf_toNat, byteOf_toNat]
    omega
  have hbody := frameBody_length 1 tag code payload
  have hdrop : (frameRest 1 tag code payload).drop (payload.length + 5)
      = bytes16 (crc16 (frameBody 1 tag code payload)).toNat := List.drop_left' hbody
  have htake : (frameRest 1 tag code payload).take (payload.length + 5) = frameBody 1 tag code payload := List.take_left' hbody
  have hpayload : ((frameRest 1 tag code payload).drop 5).take payload.length = payload := List.take_left' rfl
  have hgood : takeFrame l (frameRest 1 tag code payload) closed s
      = takeRequest l ((byteOf tag).toNat + 2 ^ 8 * (byteOf (tag / 2 ^ 8)).toNat) (byteOf code).toNat
        (decodeRequest (byteOf code).toNat (((frameRest 1 tag code payload).drop 5).take (byteOf payload.length).toNat))
        s closed := if_pos ⟨by rw [hsize]; exact hdrop.trans (by rw [← htake]), rfl⟩
  rw [hgood, hsize, hcodeByte, htagBytes, hpayload]

end

/-- R174: a request frame is taken alike whatever its link's receiver holds. -/
theorem takeRequest_setRx (l : Link) (tag code : Nat) (body : Option Request) (s : State) (closed : Bool) (rx : Receiver) :
    takeRequest l tag code body (s.setRx l rx) closed = takeRequest l tag code body s closed := by
  simp only [takeRequest, setRx_setRx]

/-- R172, R174: the bytes of a request frame, received one by one on a hunting link, hand its payload to the link unit. -/
theorem runCommands_wireFrame {l : Link} {closed : Bool} {s : State} {tag code : Nat} {payload : List Byte}
    (hs : s.arbiters = s) (hrx : (s.link l).rx = .hunting) (htag : fits16 tag = true) (hcode : fits8 code = true)
    (hlen : payload.length ≤ 240) : runCommands ((wireFrame 1 tag code payload).map (receive l closed)) s
      = done (takeRequest l tag code (decodeRequest code payload) s closed) := by
  have hsize : (byteOf payload.length).toNat = payload.length := by rw [byteOf_toNat]; omega
  obtain ⟨pre, last, hrest⟩ : ∃ pre last, frameRest 1 tag code payload = pre ++ [last] :=
    ⟨_, _, (List.dropLast_append_getLast (by simp [frameRest, bytes16])).symm⟩
  have hpre : pre.length = payload.length + 6 := by
    have h := congrArg List.length hrest
    simp only [frameRest, List.length_append, frameBody_length, bytes16, List.length_cons, List.length_nil] at h
    omega
  have hn : (pre ++ [last]).head? = some (byteOf payload.length) := by rw [← hrest]; rfl
  have hn' : ([] ++ pre).head? = some (byteOf payload.length) := by
    cases pre with
    | nil => simp at hpre
    | cons b pre => exact hn
  have hcollect := runCommands_collect (l := l) (closed := closed) hs (hsize.trans_le hlen) pre [] hn'
    (by rw [List.nil_append, hpre, hsize]; omega)
  rw [wireFrame_eq, hrest, List.map_cons, runCommands_cons_of_next (exec_startByte hs hrx), List.map_append,
    runCommands_append_of_next hcollect, List.map_singleton, runCommands_singleton]
  have hlast : receiveByte l last closed (s.setRx l (.assembling pre))
      = takeRequest l tag code (decodeRequest code payload) s closed := by
    rw [receiveByte_last closed (setRx_rx ..) hn (hsize.trans_le hlen) (by rw [List.length_append, hpre, hsize]; rfl), ← hrest,
      takeFrame_request l closed _ htag hcode hlen, takeRequest_setRx]
  exact congrArg done hlast

/-- R174, check 4: a header whose length byte is the payload's size passes. -/
theorem sizeFits_of_len {h : Header} {r : Request} (hlen : h.len = requestSize r) : sizeFits h r = true := by
  unfold sizeFits
  split
  · rw [hlen]; rfl
  · exact decide_eq_true hlen

/-- Settles O7: the receiver collects the frame up to its last byte, and the payload then decodes to the request. -/
theorem frameBytesDoWhatTheirRequestDoes : Obligations.FrameBytesDoWhatTheirRequestDoes := by
  intro i h r s hi hh hr hlen hrx hs
  obtain ⟨htag, hmax⟩ := Bool.and_eq_true_iff.1 hh
  have hcode : fits8 (requestCode r) = true := by cases r <;> rfl
  have hpayload : (encodeRequest r).length ≤ 240 := by
    rw [← requestSize, ← hlen]
    exact of_decide_eq_true hmax
  rw [exec_of_request hi, request, sizeFits_of_len hlen, if_pos rfl, ← payloadDecodesToItsRequest r hr]
  exact runCommands_wireFrame hs hrx htag hcode hpayload

end Sys2Proof.Machine
end

section
/-! PROOFS. The step by its queue: the command at the front is taken with the queue's rest, and on an empty queue the part idles. -/

namespace Sys2Proof.Machine

/-- The command at the front runs on the state whose queue is the rest. -/
theorem step_of_pending_cons {s : State} {c : Instr} {rest : List Instr} (hp : s.pending = c :: rest) :
    step s = exec c { s with pending := rest } := by
  rw [step, hp]

/-- On an empty queue the part idles (notes/assumptions/2.md). -/
theorem step_of_pending_nil {s : State} (hp : s.pending = []) : step s = .next s := by
  rw [step, hp]

/-- Settles O1: the step's two cases are those of the queue. -/
theorem stepTakesTheFront : Obligations.StepTakesTheFront :=
  fun _ => ⟨fun _ _ hp => step_of_pending_cons hp, step_of_pending_nil⟩

end Sys2Proof.Machine
end
